-- ==== Sys2Proof/Word.lean ====
section
/-! DEFINITION. The widths of the block's data paths (00_scope.md R7): bytes, 16-bit CRCs, 24-bit response
data and 32-bit command and response words. Bit 0 is the least significant bit and every value is unsigned
(R10). -/

namespace Sys2Proof

/-- One byte, logical or wire (R7, R14). -/
abbrev Byte := BitVec 8

/-- A CRC register (R7). -/
abbrev Crc := BitVec 16

/-- The DATA field of a response word (30_encoding.md R76). -/
abbrev Data := BitVec 24

/-- A command word (30_encoding.md R74) or a response word (R76). -/
abbrev Word := BitVec 32

end Sys2Proof
end

