-- ==== Sys2Proof/Config.lean ====
section
/-! DEFINITION. The parameters of one instance of the block (00_scope.md R6), and the free values. A parameter
is fixed for one instance and no command changes it (10_state.md R47). -/

namespace Sys2Proof

/-- The parameters that a rule reads, `FLAGS_BYTE` (R8) and `MAX_BODY` (R9, legal values 0..255, which is what
`Fin 256` holds). State carries them, unchanged by every step, so that one model stands for every instance
(DESIGN CHOICE, log 3, safe). -/
structure Config where
  flagsByte : Bool
  maxBody   : Fin 256
  deriving DecidableEq, Repr

/-- The defaults of R6: `FLAGS_BYTE = true`, `MAX_BODY = 255`. -/
def Config.standard : Config := ⟨true, 255⟩

/-- `LINE_ACTIVE_LOW` (R6, 10_state.md R45, decision D19): OPEN, no default, so its value is free
(DESIGN CHOICE, log 4, safe). -/
opaque Config.lineActiveLow : Bool

/-- What `BufRead(buf, i)` gives outside its domain `i < |buf|` (20_memory.md R52). The spec gives no value and
says that no rule ever reads there, so the value is free (DESIGN CHOICE, log 8, safe). -/
opaque Config.outsideBuffer : List Byte → Nat → Byte

/-- The timing parameters of R6. No rule reads them and the model has no time (10_state.md R47,
70_reset_and_hazards.md R211; log 5): they are here so that R6's table is whole. -/
structure Timing where
  rxTimeoutMs  : Nat
  baud         : Nat
  lineSettleMs : Nat
  deriving DecidableEq, Repr

/-- R6's default of `RX_TIMEOUT_MS`; `BAUD` and `LINE_SETTLE_MS` have none. -/
def Timing.standardRxTimeoutMs : Nat := 500

end Sys2Proof
end

