-- ==== Sys2Proof/Syntax.lean ====
section
/-! DEFINITION. The host commands (30_encoding.md R78): one constructor per row of spec/opcode_table.json, its
operands the operand fields the row uses, each an unsigned immediate used as it stands (R75). -/

namespace Sys2Proof

/-- A host command with its operands. -/
inductive Instr where
  | nop
  | crcInit
  | crcUpdate (byte : Byte)
  | crcRead
  | txStart (flags dest cmd : Byte)
  | txData (byte : Byte)
  | txEnd
  | txFill (byte : Byte)
  | txRespDone
  | rxHdr
  | rxLenCrc
  | rxBody (index : Byte)
  | rxPop
  | lineEnable
  | lineDisable
  | status
  | clearFlags (mask : BitVec 6)
  | softReset
  deriving DecidableEq, Repr

end Sys2Proof
end

