-- ==== Sys2Proof/WellFormed.lean ====
section
/-! DEFINITION. Which commands exist on an instance (30_encoding.md R79, R82), and which timing parameters are
legal (00_scope.md R6). -/

namespace Sys2Proof

/-- A command exists on an instance with parameters `cfg`. The operand types rule out every other ill-formed
word (`CLEAR_FLAGS` takes a 6-bit mask); what is left is `TX_START`, whose A field is must-be-zero when
`FLAGS_BYTE = false` (R79, decision D31). -/
def Instr.wellFormed (cfg : Config) : Instr → Bool
  | .txStart flags _ _ => cfg.flagsByte || flags == 0
  | .nop | .crcInit | .crcUpdate _ | .crcRead | .txData _ | .txEnd | .txFill _ | .txRespDone | .rxHdr | .rxLenCrc
  | .rxBody _ | .rxPop | .lineEnable | .lineDisable | .status | .clearFlags _ | .softReset => true

/-- The legal values of R6: a positive timeout, one of two bit rates, a settle time of 1 to 5 ms. -/
def Timing.legal (t : Timing) : Bool :=
  decide (0 < t.rxTimeoutMs) && (t.baud == 250000 || t.baud == 500000) &&
    decide (1 ≤ t.lineSettleMs ∧ t.lineSettleMs ≤ 5)

end Sys2Proof
end

