-- ==== Sys2Proof/Decode.lean ====
section
/-! DEFINITION. The command encoding (30_encoding.md R74 to R82): the decoder, total on every 32-bit word and
rejecting by name, then the encoder, then the opcode table as rows of a pattern and a mask. -/

namespace Sys2Proof

/-- The commands of R78 by opcode, without their operands. -/
inductive Op where
  | nop | crcInit | crcUpdate | crcRead
  | txStart | txData | txEnd | txFill | txRespDone
  | rxHdr | rxLenCrc | rxBody | rxPop
  | lineEnable | lineDisable
  | status | clearFlags | softReset
  deriving DecidableEq, Repr

/-- Why a word is no command: step 1 and step 2 of R79. The host sees both as `RESERVED`. -/
inductive DecodeError where
  | unknownOp (op : Byte)
  | mustBeZero (op : Op)
  deriving DecidableEq, Repr

/-- The `OP` column of R78. -/
def Op.code : Op → Byte
  | .nop => 0x00 | .crcInit => 0x01 | .crcUpdate => 0x02 | .crcRead => 0x03
  | .txStart => 0x10 | .txData => 0x11 | .txEnd => 0x12 | .txFill => 0x13 | .txRespDone => 0x14
  | .rxHdr => 0x20 | .rxLenCrc => 0x21 | .rxBody => 0x22 | .rxPop => 0x23
  | .lineEnable => 0x30 | .lineDisable => 0x31
  | .status => 0x40 | .clearFlags => 0x41 | .softReset => 0xF0

/-- Every row of R78, in its order. -/
def Op.all : List Op :=
  [.nop, .crcInit, .crcUpdate, .crcRead, .txStart, .txData, .txEnd, .txFill, .txRespDone,
   .rxHdr, .rxLenCrc, .rxBody, .rxPop, .lineEnable, .lineDisable, .status, .clearFlags, .softReset]

/-- The row with a given `OP` value, if R78 lists one. -/
def Op.ofCode (b : Byte) : Option Op :=
  Op.all.find? fun o => o.code == b

/-- The must-be-zero bits of a row (R78's column, R75, R79): A, B and C but for the operand fields the command
uses; `TX_START`'s A only when `FLAGS_BYTE = false`. -/
def Op.mustBeZero (cfg : Config) : Op → Word
  | .crcUpdate | .txData | .txFill | .rxBody => 0x00FFFF00
  | .clearFlags => 0x00FFFFC0
  | .txStart => if cfg.flagsByte then 0x00000000 else 0x00FF0000
  | .nop | .crcInit | .crcRead | .txEnd | .txRespDone | .rxHdr | .rxLenCrc | .rxPop | .lineEnable | .lineDisable
  | .status | .softReset => 0x00FFFFFF

/-- `OP = word[31:24]` (R74). -/
def opField (w : Word) : Byte := w.extractLsb' 24 8

/-- `A = word[23:16]` (R75). -/
def aField (w : Word) : Byte := w.extractLsb' 16 8

/-- `B = word[15:8]` (R75). -/
def bField (w : Word) : Byte := w.extractLsb' 8 8

/-- `C = word[7:0]` (R75). -/
def cField (w : Word) : Byte := w.extractLsb' 0 8

/-- The command of a row with its operands taken from a word (R78, R79 step 3). -/
def Op.command (o : Op) (w : Word) : Instr :=
  match o with
  | .nop => .nop
  | .crcInit => .crcInit
  | .crcUpdate => .crcUpdate (cField w)
  | .crcRead => .crcRead
  | .txStart => .txStart (aField w) (bField w) (cField w)
  | .txData => .txData (cField w)
  | .txEnd => .txEnd
  | .txFill => .txFill (cField w)
  | .txRespDone => .txRespDone
  | .rxHdr => .rxHdr
  | .rxLenCrc => .rxLenCrc
  | .rxBody => .rxBody (cField w)
  | .rxPop => .rxPop
  | .lineEnable => .lineEnable
  | .lineDisable => .lineDisable
  | .status => .status
  | .clearFlags => .clearFlags ((cField w).extractLsb' 0 6)
  | .softReset => .softReset

/-- Decoding a command word, in the order of R79: the `OP` value, the must-be-zero bits, the command. -/
def decode (cfg : Config) (w : Word) : Except DecodeError Instr :=
  match Op.ofCode (opField w) with
  | none => .error (.unknownOp (opField w))
  | some o => if w &&& o.mustBeZero cfg = 0 then .ok (o.command w) else .error (.mustBeZero o)

/-- The word `{OP, A, B, C}` (R74). -/
def commandWord (o : Op) (a b c : Byte) : Word := o.code ++ a ++ b ++ c

/-- The word of a command (R74, R78), its unused operand fields zero. -/
def encode : Instr → Word
  | .nop => commandWord .nop 0 0 0
  | .crcInit => commandWord .crcInit 0 0 0
  | .crcUpdate byte => commandWord .crcUpdate 0 0 byte
  | .crcRead => commandWord .crcRead 0 0 0
  | .txStart flags dest cmd => commandWord .txStart flags dest cmd
  | .txData byte => commandWord .txData 0 0 byte
  | .txEnd => commandWord .txEnd 0 0 0
  | .txFill byte => commandWord .txFill 0 0 byte
  | .txRespDone => commandWord .txRespDone 0 0 0
  | .rxHdr => commandWord .rxHdr 0 0 0
  | .rxLenCrc => commandWord .rxLenCrc 0 0 0
  | .rxBody index => commandWord .rxBody 0 0 index
  | .rxPop => commandWord .rxPop 0 0 0
  | .lineEnable => commandWord .lineEnable 0 0 0
  | .lineDisable => commandWord .lineDisable 0 0 0
  | .status => commandWord .status 0 0 0
  | .clearFlags mask => commandWord .clearFlags 0 0 (mask.setWidth 8)
  | .softReset => commandWord .softReset 0 0 0

/-- The word that the low `nbits` bits of `w` give, every bit above them zero. -/
def tableWord (nbits w : Nat) : Word := BitVec.ofNat 32 (w % 2 ^ nbits)

/-- What the decoder reads from a word of spec/opcode_table.json, whose masks hold with `FLAGS_BYTE = true`
(the table's note on `TX_START`; log 3). A command is one 32-bit word (R82), so nothing longer is one (log 12). -/
def decodeTableWord (nbits w : Nat) : Option Instr :=
  if nbits ≤ 32 then (decode Config.standard (tableWord nbits w)).toOption else none

/-- One row of spec/opcode_table.json: a word is of the row when it agrees with `pattern` on `mask`. -/
structure OpcodeRow where
  mnemonic : String
  pattern  : Word
  mask     : Word
  deriving DecidableEq, Repr

/-- spec/opcode_table.json, row by row; `TX_START`'s mask by its note for `FLAGS_BYTE = false`. -/
def opcodeTable (cfg : Config) : List OpcodeRow :=
  [⟨"NOP", 0x00000000, 0xFFFFFFFF⟩, ⟨"CRC_INIT", 0x01000000, 0xFFFFFFFF⟩,
   ⟨"CRC_UPDATE", 0x02000000, 0xFFFFFF00⟩, ⟨"CRC_READ", 0x03000000, 0xFFFFFFFF⟩,
   ⟨"TX_START", 0x10000000, if cfg.flagsByte then 0xFF000000 else 0xFFFF0000⟩,
   ⟨"TX_DATA", 0x11000000, 0xFFFFFF00⟩, ⟨"TX_END", 0x12000000, 0xFFFFFFFF⟩,
   ⟨"TX_FILL", 0x13000000, 0xFFFFFF00⟩, ⟨"TX_RESP_DONE", 0x14000000, 0xFFFFFFFF⟩,
   ⟨"RX_HDR", 0x20000000, 0xFFFFFFFF⟩, ⟨"RX_LEN_CRC", 0x21000000, 0xFFFFFFFF⟩,
   ⟨"RX_BODY", 0x22000000, 0xFFFFFF00⟩, ⟨"RX_POP", 0x23000000, 0xFFFFFFFF⟩,
   ⟨"LINE_ENABLE", 0x30000000, 0xFFFFFFFF⟩, ⟨"LINE_DISABLE", 0x31000000, 0xFFFFFFFF⟩,
   ⟨"STATUS", 0x40000000, 0xFFFFFFFF⟩, ⟨"CLEAR_FLAGS", 0x41000000, 0xFFFFFFC0⟩,
   ⟨"SOFT_RESET", 0xF0000000, 0xFFFFFFFF⟩]

/-- The mnemonic of a command (R78). -/
def Instr.mnemonic : Instr → String
  | .nop => "NOP" | .crcInit => "CRC_INIT" | .crcUpdate _ => "CRC_UPDATE" | .crcRead => "CRC_READ"
  | .txStart _ _ _ => "TX_START" | .txData _ => "TX_DATA" | .txEnd => "TX_END" | .txFill _ => "TX_FILL"
  | .txRespDone => "TX_RESP_DONE" | .rxHdr => "RX_HDR" | .rxLenCrc => "RX_LEN_CRC" | .rxBody _ => "RX_BODY"
  | .rxPop => "RX_POP" | .lineEnable => "LINE_ENABLE" | .lineDisable => "LINE_DISABLE" | .status => "STATUS"
  | .clearFlags _ => "CLEAR_FLAGS" | .softReset => "SOFT_RESET"

end Sys2Proof
end

