-- ==== Sys2Proof/Machine/State.lean ====
section
/-! DEFINITION. The state of the DDF frame engine (10_state.md R48), the events of its environment (30_encoding.md
R86), and the reasons a step can stop, of which the spec knows none (60_exceptions.md R186). -/

namespace Sys2Proof.Machine

/-- The parser state (10_state.md R19). -/
inductive RxState where
  | waitSom1 | waitSom2 | header | body | crc | ready | aborted
  deriving DecidableEq, Repr

/-- The encoder state (R32). -/
inductive TxState where
  | txIdle | txOpen | txHold | txSend | txWaitResp | txDiscard
  deriving DecidableEq, Repr

/-- The line controller's state (R40). -/
inductive LineState where
  | disabled | enabled
  deriving DecidableEq, Repr

/-- The content of the message register (R27). -/
structure Msg where
  flags : Byte
  dest  : Byte
  cmd   : Byte
  len   : Byte
  body  : List Byte
  crc   : Crc
  deriving DecidableEq, Repr

/-- The input events of the four environment agents (30_encoding.md R86). -/
inductive Event where
  | rxByte (b : Byte)
  | rxTimeout
  | txDrain
  | lineConfirm (v : LineState)
  deriving DecidableEq, Repr

/-- One step of one agent (10_state.md R15): the host's command word, or an event. -/
inductive Input where
  | command (w : Word)
  | event (e : Event)
  deriving DecidableEq, Repr

/-- The result codes of R77. -/
inductive ResultCode where
  | ok | state | reserved | full | range | empty
  deriving DecidableEq, Repr

/-- The sticky receive-error flags of 10_state.md R29. -/
inductive RxFlag where
  | crcErr | lenErr | escErr | rearm | tout | overrun
  deriving DecidableEq, Repr

/-- Everything the spec gives the block (R48), and three fields of the model's own: the instance's parameters
`cfg` (log 3), the agents' steps still to come `inputs` (log 1), and the response words returned so far
`responses` (log 2). -/
structure State where
  /-- `FLAGS_BYTE` and `MAX_BODY` of this instance (00_scope.md R6). -/
  cfg         : Config
  /-- `crc_acc` (R18). -/
  crcAcc      : Crc
  /-- `rx_state` (R19). -/
  rxState     : RxState
  /-- `rx_esc` (R20). -/
  rxEsc       : Bool
  /-- `rx_hidx` (R21). -/
  rxHidx      : Nat
  /-- `rx_flags`, `rx_dest`, `rx_cmd`, `rx_len` (R22). -/
  rxFlags     : Byte
  rxDest      : Byte
  rxCmd       : Byte
  rxLen       : Byte
  /-- `rx_body` (R23). -/
  rxBody      : List Byte
  /-- `rx_crc` (R24). -/
  rxCrc       : Crc
  /-- `rx_cidx` and `rx_chi` (R25). -/
  rxCidx      : Nat
  rxChi       : Byte
  /-- `rx_valid` (R26). -/
  rxValid     : Bool
  /-- `rx_msg` (R27). -/
  rxMsg       : Msg
  /-- `rxerr` (R29). -/
  rxErr       : BitVec 6
  /-- `tx_state` (R32). -/
  txState     : TxState
  /-- `tx_flags`, `tx_dest`, `tx_cmd` (R33). -/
  txFlags     : Byte
  txDest      : Byte
  txCmd       : Byte
  /-- `tx_body` (R34). -/
  txBody      : List Byte
  /-- `tx_frame` (R35). -/
  txFrame     : List Byte
  /-- `tx_resp` (R36). -/
  txResp      : Bool
  /-- `txout`, the output history (R39). -/
  txOut       : List Byte
  /-- `line_state` (R40). -/
  lineState   : LineState
  /-- `line_pending` (R41). -/
  linePending : Bool
  /-- The agents' steps still to come, the next one first (R15, R47). -/
  inputs      : List Input
  /-- The response words returned so far, oldest first (R38, R76). -/
  responses   : List Word
  deriving DecidableEq, Repr

/-- Why the machine stops with a fault. There is no constructor: "No step of the block leaves the model without
meaning, so a model needs no fault flag for the block itself" (60_exceptions.md R186; log 15). -/
inductive Fault where
  deriving DecidableEq, Repr

/-- Why a step has no meaning. -/
inductive Refusal where
  /-- An instruction without a meaning yet, raised by `exec` alone. No arm raises it: every command of the opcode
  table has its meaning. It would be safe: no next state is claimed. -/
  | notModelled (mnemonic : String)
  deriving DecidableEq, Repr

/-- The state of an instance with parameters `cfg` right after power-on (10_state.md R46, 70_reset_and_hazards.md
R195). `rx_msg` is "unspecified, unobservable" there: zero (DESIGN CHOICE, log 6, unsafe). -/
def State.powerOn (cfg : Config) : State where
  cfg := cfg
  crcAcc := 0xFFFF
  rxState := .waitSom1
  rxEsc := false
  rxHidx := 0
  rxFlags := 0x00
  rxDest := 0x00
  rxCmd := 0x00
  rxLen := 0x00
  rxBody := []
  rxCrc := 0xFFFF
  rxCidx := 0
  rxChi := 0x00
  rxValid := false
  rxMsg := ⟨0x00, 0x00, 0x00, 0x00, [], 0x0000⟩
  rxErr := 0b000000
  txState := .txIdle
  txFlags := 0x00
  txDest := 0x00
  txCmd := 0x00
  txBody := []
  txFrame := []
  txResp := false
  txOut := []
  lineState := .disabled
  linePending := false
  inputs := []
  responses := []

/-- The machine right after power-on reset with the default parameters of R6 (R46; log 3). -/
def State.reset : State := State.powerOn Config.standard

end Sys2Proof.Machine
end

