-- ==== Sys2Proof/Machine/Flags.lean ====
section
/-! DEFINITION. The sticky receive-error flags (10_state.md R29, R31), the codes STATUS reports (R19, R32, R40),
and the level outputs (R43 to R45). -/

namespace Sys2Proof.Machine

/-- The bit of a flag in `rxerr` (R29). -/
def RxFlag.bit : RxFlag → Nat
  | .crcErr => 0
  | .lenErr => 1
  | .escErr => 2
  | .rearm => 3
  | .tout => 4
  | .overrun => 5

/-- `setflag F`: the bit becomes 1, no other bit changes (R31). -/
def setFlag (f : RxFlag) (s : State) : State :=
  { s with rxErr := s.rxErr ||| BitVec.ofNat 6 (2 ^ f.bit) }

/-- Clearing the flags a mask names (44_control.md R165). -/
def clearFlags (mask : BitVec 6) (s : State) : State :=
  { s with rxErr := s.rxErr &&& ~~~mask }

/-- The 3-bit code of `rx_state` (R19). -/
def RxState.code : RxState → BitVec 3
  | .waitSom1 => 0
  | .waitSom2 => 1
  | .header => 2
  | .body => 3
  | .crc => 4
  | .ready => 5
  | .aborted => 6

/-- The 3-bit code of `tx_state` (R32). -/
def TxState.code : TxState → BitVec 3
  | .txIdle => 0
  | .txOpen => 1
  | .txHold => 2
  | .txSend => 3
  | .txWaitResp => 4
  | .txDiscard => 5

/-- The bit STATUS reports for `line_state` (R40). -/
def LineState.code : LineState → BitVec 1
  | .disabled => 0
  | .enabled => 1

/-- The STATUS data word, bit 23 first (44_control.md R164). -/
def statusData (s : State) : Data :=
  0#2 ++ s.rxErr ++ 0#6 ++ BitVec.ofBool s.linePending ++ s.lineState.code ++ 0#1 ++ s.txState.code ++
    BitVec.ofBool s.rxValid ++ s.rxState.code

/-- `RX_READY` (R43). -/
def rxReady (s : State) : Bool := s.rxValid

/-- `TX_BUSY` (R44). -/
def txBusy (s : State) : Bool := s.txState != .txIdle

/-- `LINE_OUT`, true for high (log 13), on an instance whose `LINE_ACTIVE_LOW` is `activeLow` (R45). -/
def lineOut (activeLow : Bool) (s : State) : Bool := (s.lineState == .enabled) ^^ activeLow

/-- `LINE_OUT` of the instance, whose `LINE_ACTIVE_LOW` is OPEN (R45; log 4). -/
def lineOutput (s : State) : Bool := lineOut Config.lineActiveLow s

end Sys2Proof.Machine
end

