-- ==== Sys2Proof/Machine/Operands.lean ====
section
/-! DEFINITION. Operand and result forms: the concatenations and zero extensions that rules write as `{a, b}` and
`zext_24` (00_scope.md R10, R12), and the header layout of the two protocol revisions (R8). -/

namespace Sys2Proof.Machine

/-- `zext_24` of a value (R12). -/
def zext24 {n : Nat} (v : BitVec n) : Data := v.setWidth 24

/-- `zext_24` of a count (R12), as TX_DATA returns the body length. -/
def count24 (n : Nat) : Data := BitVec.ofNat 24 n

/-- `{hi, mid, lo}` of three bytes (R10), as RX_HDR returns. -/
def bytes24 (hi mid lo : Byte) : Data := hi ++ mid ++ lo

/-- `{len, crc}` (R10), as TX_END and RX_LEN_CRC return. -/
def lenCrc24 (len : Byte) (crc : Crc) : Data := len ++ crc

/-- `{hi8, lo8}`, the 16-bit value of two CRC bytes, the first one high (20_memory.md R54). -/
def joinCrc (hi lo : Byte) : Crc := hi ++ lo

/-- `crc[15:8]` (20_memory.md R53). -/
def crcHi (c : Crc) : Byte := c.extractLsb' 8 8

/-- `crc[7:0]` (20_memory.md R53). -/
def crcLo (c : Crc) : Byte := c.extractLsb' 0 8

/-- A body's length as the one-byte length field (30_encoding.md R66). -/
def lengthByte (body : List Byte) : Byte := BitVec.ofNat 8 body.length

/-- `H`, the number of header bytes (R8). -/
def headerCount (cfg : Config) : Nat := if cfg.flagsByte then 4 else 3

/-- Which field header byte `hidx` is: 0 flags, 1 destination, 2 command, 3 length (40_frame_decoder.md R107). -/
def headerField (cfg : Config) (hidx : Nat) : Nat := if cfg.flagsByte then hidx else hidx + 1

/-- The logical header and body bytes, in wire order (30_encoding.md R65, R72). -/
def logicalBytes (cfg : Config) (flags dest cmd len : Byte) (body : List Byte) : List Byte :=
  (if cfg.flagsByte then [flags] else []) ++ [dest, cmd, len] ++ body

end Sys2Proof.Machine
end

