-- ==== Sys2Proof/Machine/Ops.lean ====
section
/-! DEFINITION. The operations the rules share (00_scope.md R13): the CRC step and fold, byte-stuffing and the wire
frame, the buffers, the output stream, the end of a command with its response word, and the taking of the next
agent's step. The block has no trap (60_exceptions.md R177, R178): a command that cannot be performed ends in
`reject`, the one operation of that kind. -/

namespace Sys2Proof.Machine

/-- One shift of the CRC register (42_crc_engine.md R145). -/
def crcShift (x : Crc) : Crc := if x.getLsbD 0 then (x >>> 1) ^^^ 0xA001 else x >>> 1

/-- `n` shifts. -/
def crcShifts : Nat → Crc → Crc
  | 0, x => x
  | n + 1, x => crcShifts n (crcShift x)

/-- `crc16_step`: one byte into a CRC, eight shifts (R145). -/
def crc16Step (c : Crc) (b : Byte) : Crc := crcShifts 8 (c ^^^ b.setWidth 16)

/-- The initial value of a CRC (R143). -/
def crcInitial : Crc := 0xFFFF

/-- `crc16`: the fold of the step from the initial value, no final XOR (R146). -/
def crc16 (xs : List Byte) : Crc := xs.foldl crc16Step crcInitial

/-- `stuff1` (30_encoding.md R68). -/
def stuff1 (b : Byte) : List Byte :=
  if b = 0xFE then [0xFE, 0x00] else if b = 0xFF then [0xFE, 0x01] else [b]

/-- `stuff`: the byte-stuffing of a list of logical bytes (R68). -/
def stuff (xs : List Byte) : List Byte := xs.flatMap stuff1

/-- The wire frame of logical header and body bytes: the raw marker, then the stuffed bytes and CRC, high byte
first (R65, 20_memory.md R53). -/
def wireFrame (lg : List Byte) : List Byte :=
  [0xFF, 0xFF] ++ stuff (lg ++ [crcHi (crc16 lg), crcLo (crc16 lg)])

/-- `BufRead` (20_memory.md R52); outside its domain a free value (log 8). -/
def bufRead (buf : List Byte) (i : Nat) : Byte :=
  match buf[i]? with
  | some b => b
  | none => Config.outsideBuffer buf i

/-- `BufAppend` (20_memory.md R52). -/
def bufAppend (buf : List Byte) (b : Byte) : List Byte := buf ++ [b]

/-- `Emit`: append wire bytes to the transmit output stream in one action (10_state.md R39). -/
def emit (xs : List Byte) (s : State) : State := { s with txOut := s.txOut ++ xs }

/-- The result codes (30_encoding.md R77). -/
def ResultCode.code : ResultCode → Byte
  | .ok => 0x00
  | .state => 0x01
  | .reserved => 0x02
  | .full => 0x03
  | .range => 0x04
  | .empty => 0x05

/-- The response word `{RC, DATA}` (R76). -/
def responseWord (rc : ResultCode) (d : Data) : Word := rc.code ++ d

/-- Return a response word to the host (R76). -/
def respond (rc : ResultCode) (d : Data) (s : State) : State :=
  { s with responses := s.responses ++ [responseWord rc d] }

/-- `ok(d)`: end a command with result code OK (00_scope.md R13). -/
def ok (d : Data) (s : State) : Host.Outcome State Fault Refusal := .next (respond .ok d s)

/-- `reject RC`: end a command with every state field unchanged and the response `{RC, 0}` (60_exceptions.md
R170). -/
def reject (rc : ResultCode) (s : State) : Host.Outcome State Fault Refusal := .next (respond rc 0 s)

/-- Reject a word that is no command, `RESERVED` (30_encoding.md R79). -/
def rejectWord (s : State) : Host.Outcome State Fault Refusal := reject .reserved s

/-- The next agent's step and the state without it (10_state.md R15; log 1). -/
def takeInput (s : State) : Option (Input × State) :=
  match s.inputs with
  | [] => none
  | i :: rest => some (i, { s with inputs := rest })

/-- The host is the next agent and issues the word `w` (20_memory.md R63; log 14). -/
def issueWord (w : Word) (s : State) : State := { s with inputs := .command w :: s.inputs }

end Sys2Proof.Machine
end

