-- ==== Sys2Proof/Machine/Control.lean ====
section
/-! DEFINITION. The control commands (44_control.md R164 to R167). -/

namespace Sys2Proof.Machine

/-- NOP (R166). -/
def execNop (s : State) : Host.Outcome State Fault Refusal := ok 0 s

/-- STATUS (R164). -/
def execStatus (s : State) : Host.Outcome State Fault Refusal := ok (statusData s) s

/-- CLEAR_FLAGS (R165): the answer is the flags before the clearing. -/
def execClearFlags (mask : BitVec 6) (s : State) : Host.Outcome State Fault Refusal :=
  ok (zext24 s.rxErr) (clearFlags mask s)

/-- The block returned to its idle state (R167, 70_reset_and_hazards.md R196). A frame already in the transport
still drains, and a line that was ENABLED or in transition stays unconfirmed. -/
def softReset (s : State) : State :=
  { s with
    crcAcc := crcInitial
    rxState := .waitSom1
    rxEsc := false
    rxHidx := 0
    rxBody := []
    rxCidx := 0
    rxValid := false
    rxErr := 0b000000
    txState := if s.txState = .txSend ∨ s.txState = .txDiscard then .txDiscard else .txIdle
    txBody := []
    txResp := false
    linePending := s.linePending || s.lineState == .enabled
    lineState := .disabled }

/-- SOFT_RESET (R167). -/
def execSoftReset (s : State) : Host.Outcome State Fault Refusal := ok 0 (softReset s)

end Sys2Proof.Machine
end

