-- ==== Sys2Proof/Machine/CrcEngine.lean ====
section
/-! DEFINITION. The host commands of the CRC engine (42_crc_engine.md R147 to R149). -/

namespace Sys2Proof.Machine

/-- CRC_INIT (R147). -/
def execCrcInit (s : State) : Host.Outcome State Fault Refusal :=
  ok 0 { s with crcAcc := crcInitial }

/-- CRC_UPDATE (R148). -/
def execCrcUpdate (byte : Byte) (s : State) : Host.Outcome State Fault Refusal :=
  let acc := crc16Step s.crcAcc byte
  ok (zext24 acc) { s with crcAcc := acc }

/-- CRC_READ (R149). -/
def execCrcRead (s : State) : Host.Outcome State Fault Refusal :=
  ok (zext24 s.crcAcc) s

end Sys2Proof.Machine
end

