-- ==== Sys2Proof/Machine/Decoder.lean ====
section
/-! DEFINITION. The frame decoder: the events RX_BYTE and RX_TIMEOUT (40_frame_decoder.md R100 to R111) and the host
commands that read the message register (R113 to R116). -/

namespace Sys2Proof.Machine

/-- OutsideFrame (R101). -/
def outsideFrame (b : Byte) (s : State) : State :=
  { s with rxState := if b = 0xFF then .waitSom2 else .waitSom1 }

/-- StartFrame (R106). -/
def startFrame (s : State) : State :=
  { s with
    rxState := .header
    rxHidx := 0
    rxEsc := false
    rxCrc := crcInitial
    rxBody := []
    rxCidx := 0
    rxFlags := 0x00 }

/-- SecondMarker (R102). -/
def secondMarker (b : Byte) (s : State) : State :=
  if b = 0xFF then startFrame s else { s with rxState := .waitSom1 }

/-- InFrameMarker (R103): a marker run before the first header byte is skipped, any other wire 0xFF re-arms. -/
def inFrameMarker (s : State) : State :=
  if s.rxState = .header ∧ s.rxHidx = 0 ∧ s.rxEsc = false then s
  else { setFlag .rearm s with rxEsc := false, rxState := .waitSom2 }

/-- The header register that field `k` writes (R107): 0 flags, 1 destination, 2 command, 3 length. No frame has
a field above 3 (log 11). -/
def setHeaderField (k : Nat) (v : Byte) (s : State) : State :=
  match k with
  | 0 => { s with rxFlags := v }
  | 1 => { s with rxDest := v }
  | 2 => { s with rxCmd := v }
  | 3 => { s with rxLen := v }
  | _ => s

/-- What follows the length byte (R107). -/
def afterLength (v : Byte) (s : State) : State :=
  if s.cfg.maxBody.val < v.toNat then { setFlag .lenErr s with rxState := .aborted }
  else if v = 0 then { s with rxState := .crc, rxCidx := 0 }
  else { s with rxState := .body }

/-- Logical(v) in HEADER (R107). -/
def headerByte (v : Byte) (s : State) : State :=
  let k := headerField s.cfg s.rxHidx
  let t := setHeaderField k v { s with rxCrc := crc16Step s.rxCrc v, rxHidx := s.rxHidx + 1 }
  if k = 3 then afterLength v t else t

/-- Logical(v) in BODY (R108). -/
def bodyByte (v : Byte) (s : State) : State :=
  let body := bufAppend s.rxBody v
  let t := { s with rxCrc := crc16Step s.rxCrc v, rxBody := body }
  if body.length = s.rxLen.toNat then { t with rxState := .crc, rxCidx := 0 } else t

/-- The message a completed frame holds (R110). -/
def receivedMsg (crc : Crc) (s : State) : Msg :=
  ⟨s.rxFlags, s.rxDest, s.rxCmd, s.rxLen, s.rxBody, crc⟩

/-- Complete (R110): load the message register, or drop the message if it is occupied. -/
def complete (crc : Crc) (s : State) : State :=
  if s.rxValid then { setFlag .overrun s with rxState := .ready }
  else { s with rxMsg := receivedMsg crc s, rxValid := true, rxState := .ready }

/-- Logical(v) in CRC (R109). -/
def crcByte (v : Byte) (s : State) : State :=
  if s.rxCidx = 0 then { s with rxChi := v, rxCidx := 1 }
  else if joinCrc s.rxChi v = s.rxCrc then complete (joinCrc s.rxChi v) s
  else { setFlag .crcErr s with rxState := .aborted }

/-- Logical(v), by state (R105). Outside HEADER, BODY and CRC no rule runs it. -/
def logicalByte (v : Byte) (s : State) : State :=
  match s.rxState with
  | .header => headerByte v s
  | .body => bodyByte v s
  | .crc => crcByte v s
  | .waitSom1 | .waitSom2 | .ready | .aborted => s

/-- Escaped (R104): the byte after the escape byte. -/
def escaped (b : Byte) (s : State) : State :=
  let t := { s with rxEsc := false }
  if b = 0x00 then logicalByte 0xFE t
  else if b = 0x01 then logicalByte 0xFF t
  else { setFlag .escErr t with rxState := .aborted }

/-- A byte inside a frame, the marker tested before the escape state (R100, R105). -/
def inFrame (b : Byte) (s : State) : State :=
  if b = 0xFF then inFrameMarker s
  else if s.rxEsc then escaped b s
  else if b = 0xFE then { s with rxEsc := true }
  else logicalByte b s

/-- RX_BYTE (R100). -/
def rxByte (b : Byte) (s : State) : State :=
  match s.rxState with
  | .waitSom1 | .ready | .aborted => outsideFrame b s
  | .waitSom2 => secondMarker b s
  | .header | .body | .crc => inFrame b s

/-- RX_TIMEOUT (R111). -/
def rxTimeout (s : State) : State :=
  let t := match s.rxState with
    | .header | .body | .crc => setFlag .tout s
    | .waitSom1 | .waitSom2 | .ready | .aborted => s
  { t with rxState := .waitSom1, rxEsc := false }

/-- RX_HDR (R113). -/
def execRxHdr (s : State) : Host.Outcome State Fault Refusal :=
  if s.rxValid = false then reject .empty s
  else ok (bytes24 s.rxMsg.flags s.rxMsg.dest s.rxMsg.cmd) s

/-- RX_LEN_CRC (R114). -/
def execRxLenCrc (s : State) : Host.Outcome State Fault Refusal :=
  if s.rxValid = false then reject .empty s
  else ok (lenCrc24 s.rxMsg.len s.rxMsg.crc) s

/-- RX_BODY (R115). -/
def execRxBody (index : Byte) (s : State) : Host.Outcome State Fault Refusal :=
  if s.rxValid = false then reject .empty s
  else if s.rxMsg.len.toNat ≤ index.toNat then reject .range s
  else ok (zext24 (bufRead s.rxMsg.body index.toNat)) s

/-- RX_POP (R116). -/
def execRxPop (s : State) : Host.Outcome State Fault Refusal :=
  if s.rxValid = false then reject .empty s
  else ok 0 { s with rxValid := false }

end Sys2Proof.Machine
end

