-- ==== Sys2Proof/Machine/Encoder.lean ====
section
/-! DEFINITION. The frame encoder: its host commands (41_frame_encoder.md R125 to R131) and the TX_DRAIN event
(R132). -/

namespace Sys2Proof.Machine

/-- TX_START (R125). The first check is the decoder's too (30_encoding.md R79; log 16). -/
def execTxStart (flags dest cmd : Byte) (s : State) : Host.Outcome State Fault Refusal :=
  if s.cfg.flagsByte = false ∧ flags ≠ 0 then reject .reserved s
  else if s.txState ≠ .txIdle then reject .state s
  else ok 0 { s with
    txFlags := if s.cfg.flagsByte then flags else 0x00
    txDest := dest
    txCmd := cmd
    txBody := []
    txState := .txOpen }

/-- TX_DATA (R127). -/
def execTxData (byte : Byte) (s : State) : Host.Outcome State Fault Refusal :=
  if s.txState ≠ .txOpen then reject .state s
  else if s.txBody.length = s.cfg.maxBody.val then reject .full s
  else
    let body := bufAppend s.txBody byte
    ok (count24 body.length) { s with txBody := body }

/-- The logical header and body bytes of the message being built (R129). -/
def txLogical (s : State) : List Byte :=
  logicalBytes s.cfg s.txFlags s.txDest s.txCmd (lengthByte s.txBody) s.txBody

/-- Hand a finished frame to the transport, or hold it while a line change is unconfirmed (R129). -/
def sendOrHold (frame : List Byte) (s : State) : State :=
  if s.linePending then { s with txFrame := frame, txState := .txHold }
  else { emit frame s with txState := .txSend }

/-- TX_END (R129). -/
def execTxEnd (s : State) : Host.Outcome State Fault Refusal :=
  if s.txState ≠ .txOpen then reject .state s
  else
    let lg := txLogical s
    ok (lenCrc24 (lengthByte s.txBody) (crc16 lg))
      (sendOrHold (wireFrame lg) { s with txResp := s.cfg.flagsByte && s.txFlags.getLsbD 1 })

/-- TX_FILL (R130). -/
def execTxFill (byte : Byte) (s : State) : Host.Outcome State Fault Refusal :=
  if s.txState ≠ .txWaitResp then reject .state s
  else if s.linePending then reject .state s
  else ok 0 (emit (stuff [byte]) s)

/-- TX_RESP_DONE (R131). -/
def execTxRespDone (s : State) : Host.Outcome State Fault Refusal :=
  if s.txState ≠ .txWaitResp then reject .state s
  else ok 0 { s with txState := .txIdle }

/-- TX_DRAIN (R132). -/
def txDrain (s : State) : State :=
  match s.txState with
  | .txSend => { s with txState := if s.txResp then .txWaitResp else .txIdle }
  | .txDiscard => { s with txState := .txIdle }
  | .txIdle | .txOpen | .txHold | .txWaitResp => s

end Sys2Proof.Machine
end

