-- ==== Sys2Proof/Machine/LineArbiter.lean ====
section
/-! DEFINITION. The half-duplex line-enable arbiter (43_line_arbiter.md R153 to R155). -/

namespace Sys2Proof.Machine

/-- A frame of the block is held, on the wire or being discarded: no level change may begin (R153, R154). -/
def frameOut (s : State) : Bool :=
  s.txState == .txHold || s.txState == .txSend || s.txState == .txDiscard

/-- Request a level: nothing changes when it is the requested one already (R153, R154). -/
def requestLine (v : LineState) (s : State) : State :=
  if s.lineState = v then s else { s with lineState := v, linePending := true }

/-- LINE_ENABLE (R153). -/
def execLineEnable (s : State) : Host.Outcome State Fault Refusal :=
  if frameOut s then reject .state s else ok 0 (requestLine .enabled s)

/-- LINE_DISABLE (R154). -/
def execLineDisable (s : State) : Host.Outcome State Fault Refusal :=
  if frameOut s then reject .state s else ok 0 (requestLine .disabled s)

/-- Hand a held frame to the transport (R155). -/
def releaseHeld (s : State) : State :=
  if s.txState = .txHold then { emit s.txFrame s with txState := .txSend } else s

/-- LINE_CONFIRM(v) (R155). -/
def lineConfirm (v : LineState) (s : State) : State :=
  if s.linePending = true ∧ v = s.lineState then releaseHeld { s with linePending := false } else s

end Sys2Proof.Machine
end

