-- ==== Sys2Proof/Machine/Dispatch.lean ====
section
/-! DEFINITION. One arm per command, each a direct call of its meaning. -/

namespace Sys2Proof.Machine

def exec (i : Instr) (s : State) : Host.Outcome State Fault Refusal :=
  match i with
  | .nop => Sys2Proof.Machine.execNop s
  | .crcInit => Sys2Proof.Machine.execCrcInit s
  | .crcUpdate byte => Sys2Proof.Machine.execCrcUpdate byte s
  | .crcRead => Sys2Proof.Machine.execCrcRead s
  | .txStart flags dest cmd => Sys2Proof.Machine.execTxStart flags dest cmd s
  | .txData byte => Sys2Proof.Machine.execTxData byte s
  | .txEnd => Sys2Proof.Machine.execTxEnd s
  | .txFill byte => Sys2Proof.Machine.execTxFill byte s
  | .txRespDone => Sys2Proof.Machine.execTxRespDone s
  | .rxHdr => Sys2Proof.Machine.execRxHdr s
  | .rxLenCrc => Sys2Proof.Machine.execRxLenCrc s
  | .rxBody index => Sys2Proof.Machine.execRxBody index s
  | .rxPop => Sys2Proof.Machine.execRxPop s
  | .lineEnable => Sys2Proof.Machine.execLineEnable s
  | .lineDisable => Sys2Proof.Machine.execLineDisable s
  | .status => Sys2Proof.Machine.execStatus s
  | .clearFlags mask => Sys2Proof.Machine.execClearFlags mask s
  | .softReset => Sys2Proof.Machine.execSoftReset s

end Sys2Proof.Machine
end

