-- ==== Sys2Proof/Machine/Events.lean ====
section
/-! DEFINITION. The input events of the environment (30_encoding.md R86). Each is admitted in every state (R87 to
R89), returns no response word and never stops the machine. -/

namespace Sys2Proof.Machine

/-- The effect of an event, by the rule R86 names for it. -/
def applyEvent (e : Event) (s : State) : State :=
  match e with
  | .rxByte b => rxByte b s
  | .rxTimeout => rxTimeout s
  | .txDrain => txDrain s
  | .lineConfirm v => lineConfirm v s

end Sys2Proof.Machine
end

