-- ==== Sys2Proof/Machine/Step.lean ====
section
/-! DEFINITION. One step of the machine: the next agent acts (10_state.md R15). -/

namespace Sys2Proof.Machine

/-- The host's step: decode the word, then its command runs, or it is rejected (30_encoding.md R79). -/
def runWord (w : Word) (s : State) : Host.Outcome State Fault Refusal :=
  match decode s.cfg w with
  | .ok i => exec i s
  | .error _ => rejectWord s

/-- One atomic step of the next agent (00_scope.md R11). With no agent's step to come the block holds its state
(60_exceptions.md R185; log 9). -/
def step (s : State) : Host.Outcome State Fault Refusal :=
  match takeInput s with
  | none => .next s
  | some (.command w, t) => runWord w t
  | some (.event e, t) => .next (applyEvent e t)

/-- The state in which the host issues a given word next (log 14). -/
def State.withFetchWord (s : State) (nbits w : Nat) : State := issueWord (tableWord nbits w) s

end Sys2Proof.Machine
end

