-- ==== Sys2Proof/Machine/Pseudo.lean ====
section
/-! DEFINITION. The assembler text of a command (30_encoding.md R83), the pseudo-commands and the document's facade
calls as lists of commands (R85), and agents' steps as inputs (R84). -/

namespace Sys2Proof.Machine

/-- A hexadecimal digit. -/
def hexDigit (n : Nat) : Char := "0123456789ABCDEF".toList.getD (n % 16) '0'

/-- A byte operand as text, `0x` and two digits (R83 allows decimal too; log 18). -/
def byteText (b : Byte) : String :=
  "0x" ++ String.singleton (hexDigit (b.toNat / 16)) ++ String.singleton (hexDigit b.toNat)

/-- The operands of a command as text, in field order, only the fields it uses (R83). -/
def operandTexts (cfg : Config) : Instr → List String
  | .txStart flags dest cmd =>
    (if cfg.flagsByte then [byteText flags] else []) ++ [byteText dest, byteText cmd]
  | .crcUpdate byte | .txData byte | .txFill byte => [byteText byte]
  | .rxBody index => [byteText index]
  | .clearFlags mask => [byteText (mask.setWidth 8)]
  | .nop | .crcInit | .crcRead | .txEnd | .txRespDone | .rxHdr | .rxLenCrc | .rxPop | .lineEnable | .lineDisable
  | .status | .softReset => []

/-- A command as assembler text (R83). -/
def assemblerText (cfg : Config) (i : Instr) : String :=
  match operandTexts cfg i with
  | [] => i.mnemonic
  | x :: rest => i.mnemonic ++ " " ++ String.intercalate ", " (x :: rest)

/-- `startMessage(dest, cmd, flags)` (R85). -/
def startMessage (dest cmd flags : Byte) : List Instr := [.txStart flags dest cmd]

/-- `sendData(bytes)` (R85). -/
def sendData (bytes : List Byte) : List Instr := bytes.map .txData

/-- `SEND flags, dest, cmd, [b0, ..., bn-1]` (R85). -/
def sendCommands (flags dest cmd : Byte) (body : List Byte) : List Instr :=
  startMessage dest cmd flags ++ sendData body ++ [.txEnd]

/-- `CRC_BLOCK [b0, ..., bn-1]` (R85). -/
def crcBlock (bytes : List Byte) : List Instr := .crcInit :: bytes.map .crcUpdate ++ [.crcRead]

/-- `RECV`, for the `len` that RX_LEN_CRC answered (R85). -/
def recvCommands (len : Byte) : List Instr :=
  [.rxHdr, .rxLenCrc] ++ (List.range len.toNat).map (fun i => .rxBody (BitVec.ofNat 8 i)) ++ [.rxPop]

/-- The host issues commands in order. -/
def commandInputs (is : List Instr) : List Input := is.map fun i => .command (encode i)

/-- `@RX b1 ... bn`: one RX_BYTE a byte, in order (R84). -/
def rxInputs (bytes : List Byte) : List Input := bytes.map fun b => .event (.rxByte b)

end Sys2Proof.Machine
end

