-- ==== Sys2Proof/Safety.lean ====
section
/-! DEFINITION. What a good state of the block is: the relations between the fields that the spec states, and the
words the claims use. -/

namespace Sys2Proof.Machine

/-- The states in which a frame is being received (10_state.md R20). -/
def RxState.inFrame (r : RxState) : Bool := r == .header || r == .body || r == .crc

/-- The header registers of the frame being received, in wire order (R22, 00_scope.md R8). -/
def rxHeader (s : State) : List Byte :=
  (if s.cfg.flagsByte then [s.rxFlags] else []) ++ [s.rxDest, s.rxCmd, s.rxLen]

/-- The logical bytes of the frame taken so far (10_state.md R21, R23). -/
def rxTaken (s : State) : List Byte := (rxHeader s).take s.rxHidx ++ s.rxBody

/-- The logical header and body bytes of a message (30_encoding.md R65). -/
def Msg.logical (cfg : Config) (m : Msg) : List Byte :=
  logicalBytes cfg m.flags m.dest m.cmd m.len m.body

/-- A message that an instance can send and deliver: its length field is its body's length, at most `MAX_BODY`
(R66), it has no flags where the revision has none (00_scope.md R8), and its CRC is that of its logical bytes
(R65, R72). -/
def Msg.good (cfg : Config) (m : Msg) : Prop :=
  m.body.length = m.len.toNat ∧ m.len.toNat ≤ cfg.maxBody.val ∧ (cfg.flagsByte = false → m.flags = 0) ∧
    m.crc = crc16 (m.logical cfg)

/-- The relations between the fields of the decoder (R20 to R27). -/
structure DecoderInv (s : State) : Prop where
  /-- `rx_hidx` counts up to the header count (R21). -/
  hidx_le : s.rxHidx ≤ headerCount s.cfg
  /-- `rx_cidx` is 0 or 1 (R25). -/
  cidx_le : s.rxCidx ≤ 1
  /-- `rx_esc` is set only inside a frame (R20). -/
  esc_inFrame : s.rxEsc = true → s.rxState.inFrame = true
  /-- The body buffer holds at most `MAX_BODY` bytes (R23). -/
  body_le : s.rxBody.length ≤ s.cfg.maxBody.val
  /-- The earlier revision's flags value is 0 (R22). -/
  flags_zero : s.cfg.flagsByte = false → s.rxFlags = 0
  /-- Inside a frame the running CRC is that of the logical bytes taken (R24). -/
  crc_running : s.rxState.inFrame = true → s.rxCrc = crc16 (rxTaken s)
  /-- In HEADER a header byte is still to come and no body byte has been taken (R21, R106). -/
  in_header : s.rxState = .header → s.rxHidx < headerCount s.cfg ∧ s.rxBody = [] ∧ s.rxCidx = 0
  /-- In BODY the header is whole and a body byte is still to come (R108). -/
  in_body : s.rxState = .body →
    s.rxHidx = headerCount s.cfg ∧ s.rxBody.length < s.rxLen.toNat ∧ s.rxLen.toNat ≤ s.cfg.maxBody.val
  /-- In CRC header and body are whole (R108, R109). -/
  in_crc : s.rxState = .crc →
    s.rxHidx = headerCount s.cfg ∧ s.rxBody.length = s.rxLen.toNat ∧ s.rxLen.toNat ≤ s.cfg.maxBody.val
  /-- A delivered message is a good one (R27). -/
  msg_good : s.rxValid = true → s.rxMsg.good s.cfg

/-- The relations between the fields of the encoder and the line arbiter (R33 to R36, R42). -/
structure EncoderInv (s : State) : Prop where
  /-- The body being built holds at most `MAX_BODY` bytes (R34). -/
  body_le : s.txBody.length ≤ s.cfg.maxBody.val
  /-- The earlier revision's flags value is 0 (R33). -/
  flags_zero : s.cfg.flagsByte = false → s.txFlags = 0
  /-- A frame is held only while a level change is unconfirmed (R42). -/
  hold_pending : s.txState = .txHold → s.linePending = true
  /-- The held frame is the wire frame of the message built (R35). -/
  hold_frame : s.txState = .txHold → s.txFrame = wireFrame (txLogical s)
  /-- `tx_resp` is the frame's RESPONSE_EXPECTED while it is held or on the wire (R36). -/
  resp_flag : s.txState = .txHold ∨ s.txState = .txSend → s.txResp = (s.cfg.flagsByte && s.txFlags.getLsbD 1)

/-- A good state of the block. -/
structure State.Inv (s : State) : Prop where
  decoder : DecoderInv s
  encoder : EncoderInv s

end Sys2Proof.Machine
end

