-- ==== Sys2Proof/Certificates/Slice0/Obligations.lean ====
section
/-! DEFINITION. The statements for the provers. A statement about a command gives its word (30_encoding.md R78) and
the whole next state, so that every field it does not name is unchanged; rejected commands add their response word
and change nothing else (60_exceptions.md R170). The block has no addressable memory: its buffers and its output
stream are fields like the others. -/

open Sys2Proof Sys2Proof.Machine

/-! ## Decoding and the step -/

/-- A few words of spec/95_test_vectors.md, written out from R78. -/
def Obligations.SampleWordsDecode : Prop :=
  decode Config.standard 0x00000000 = .ok .nop ∧
  decode Config.standard 0x020000FE = .ok (.crcUpdate 0xFE) ∧
  decode Config.standard 0x100302A1 = .ok (.txStart 0x03 0x02 0xA1) ∧
  decode Config.standard 0x22000002 = .ok (.rxBody 2) ∧
  decode Config.standard 0x31000000 = .ok .lineDisable ∧
  decode Config.standard 0x4100003F = .ok (.clearFlags 0x3F) ∧
  decode Config.standard 0x410000C0 = .error (.mustBeZero .clearFlags) ∧
  decode Config.standard 0x04000000 = .error (.unknownOp 0x04) ∧
  decode ⟨false, 255⟩ 0x100102A1 = .error (.mustBeZero .txStart)

/-- Decoding the word of a command that the instance has gives that command, for every operand value. -/
def Obligations.DecodeOfEncodeIsTheCommand : Prop :=
  ∀ (cfg : Config) (i : Instr), i.wellFormed cfg = true → decode cfg (encode i) = .ok i

/-- A word that decodes is the one word of its command (R80, R81: no second spelling). -/
def Obligations.EncodeOfDecodeIsTheWord : Prop :=
  ∀ (cfg : Config) (w : Word) (i : Instr), decode cfg w = .ok i → i.wellFormed cfg = true ∧ encode i = w

/-- A word is of a row of spec/opcode_table.json exactly when it decodes to a command of that row (R78, R80). -/
def Obligations.DecodeFollowsTheOpcodeTable : Prop :=
  ∀ (cfg : Config) (w : Word), ∀ row ∈ opcodeTable cfg,
    (w &&& row.mask = row.pattern ↔ ∃ i, decode cfg w = .ok i ∧ i.mnemonic = row.mnemonic)

/-- The host's step runs the command its word decodes to, on the state without that input. -/
def Obligations.StepRunsTheDecodedCommand : Prop :=
  ∀ (s : State) (w : Word) (rest : List Input) (i : Instr),
    s.inputs = .command w :: rest → decode s.cfg w = .ok i → step s = exec i { s with inputs := rest }

/-- A word of no row is answered `RESERVED` and changes nothing (R79, R81). -/
def Obligations.StepRejectsReservedWords : Prop :=
  ∀ (s : State) (w : Word) (rest : List Input),
    s.inputs = .command w :: rest → (∀ row ∈ opcodeTable s.cfg, w &&& row.mask ≠ row.pattern) →
      step s = .next { s with inputs := rest, responses := s.responses ++ [0x02000000] }

/-- An environment agent's step applies its event, and with no agent's step to come the block holds its state
(R86, R185; that a step is taken at all then is the model's, log 9). -/
def Obligations.StepRunsTheEvent : Prop :=
  (∀ (s : State) (e : Event) (rest : List Input),
    s.inputs = .event e :: rest → step s = .next (applyEvent e { s with inputs := rest })) ∧
  (∀ s : State, s.inputs = [] → step s = .next s)

/-- Every step completes: a command is answered with exactly one response word, an event with none, and one input
is taken (R76, R186). -/
def Obligations.EveryInputIsAnswered : Prop :=
  ∀ s : State, ∃ t, step s = .next t ∧ t.inputs = s.inputs.tail ∧
    (∀ w rest, s.inputs = .command w :: rest → ∃ r, t.responses = s.responses ++ [r]) ∧
    (∀ e rest, s.inputs = .event e :: rest → t.responses = s.responses)

/-! ## Reset and the invariant -/

/-- The power-on values of R46, of every instance; `rx_msg`, which R46 leaves unspecified, is not mentioned. -/
def Obligations.PowerOnValues : Prop :=
  ∀ s : State, (s = State.reset ∨ ∃ cfg : Config, s = State.powerOn cfg) →
    s.crcAcc = 0xFFFF ∧ s.rxState = .waitSom1 ∧ s.rxEsc = false ∧ s.rxHidx = 0 ∧
    s.rxFlags = 0 ∧ s.rxDest = 0 ∧ s.rxCmd = 0 ∧ s.rxLen = 0 ∧ s.rxBody = [] ∧ s.rxCrc = 0xFFFF ∧
    s.rxCidx = 0 ∧ s.rxChi = 0 ∧ s.rxValid = false ∧ s.rxErr = 0 ∧
    s.txState = .txIdle ∧ s.txFlags = 0 ∧ s.txDest = 0 ∧ s.txCmd = 0 ∧ s.txBody = [] ∧ s.txFrame = [] ∧
    s.txResp = false ∧ s.txOut = [] ∧ s.lineState = .disabled ∧ s.linePending = false

/-- Power-on is a good state, on every instance. -/
def Obligations.PowerOnIsGood : Prop :=
  State.reset.Inv ∧ ∀ cfg : Config, (State.powerOn cfg).Inv

/-- Every step from a good state, by any agent, gives a good state (R20 to R27, R33 to R36, R42). -/
def Obligations.EveryStepKeepsTheInvariant : Prop :=
  ∀ s t : State, s.Inv → step s = .next t → t.Inv

/-- In every run from power-on a held frame waits for a confirm, and a delivered message carries the CRC of its own
logical bytes (R42, R27). -/
def Obligations.RunsFromPowerOnStayGood : Prop :=
  ∀ (cfg : Config) (inputs : List Input) (n : Nat) (t : State),
    Host.Core.run Sys2Proof.core n { State.powerOn cfg with inputs := inputs } = .next t →
      (t.txState = .txHold → t.linePending = true) ∧
      (t.rxValid = true → t.rxMsg.body.length = t.rxMsg.len.toNat ∧ t.rxMsg.len.toNat ≤ cfg.maxBody.val ∧
        t.rxMsg.crc = crc16 (t.rxMsg.logical cfg)) ∧
      t.rxBody.length ≤ cfg.maxBody.val ∧ t.txBody.length ≤ cfg.maxBody.val

/-- No step changes the parameters, takes back a wire byte or takes back a response (R6, R39, R47). -/
def Obligations.ParametersFixedAndOutputsOnlyGrow : Prop :=
  ∀ s t : State, step s = .next t →
    t.cfg = s.cfg ∧ s.txOut <+: t.txOut ∧ s.responses <+: t.responses

/-! ## CRC engine -/

/-- CRC_UPDATE (R148). -/
def Obligations.CrcUpdateFollowsItsRule : Prop :=
  ∀ (b : Byte) (s : State),
    encode (.crcUpdate b) = 0x020000#24 ++ b ∧
    exec (.crcUpdate b) s = .next { s with
      crcAcc := crc16Step s.crcAcc b
      responses := s.responses ++ [(crc16Step s.crcAcc b).setWidth 32] }

/-- CRC_INIT (R147) and CRC_READ (R149). -/
def Obligations.CrcInitAndCrcReadFollowTheirRules : Prop :=
  encode .crcInit = 0x01000000 ∧ encode .crcRead = 0x03000000 ∧
  ∀ s : State,
    exec .crcInit s = .next { s with crcAcc := 0xFFFF, responses := s.responses ++ [0x00000000] } ∧
    exec .crcRead s = .next { s with responses := s.responses ++ [s.crcAcc.setWidth 32] }

/-- The bit-serial step is the byte-table form: only the low byte of the register meets the data byte (R145). -/
def Obligations.CrcStepHasTheTableForm : Prop :=
  ∀ (c : Crc) (b : Byte), crc16Step c b = (c >>> 8) ^^^ crc16Step 0 (c.setWidth 8 ^^^ b)

/-- The one two-byte suffix that gives a zero residue is the CRC low byte first; the wire order, high byte first,
gives one only when the two bytes are equal (R152). -/
def Obligations.ZeroResidueOnlyLowByteFirst : Prop :=
  ∀ (xs : List Byte), ∀ c, c = crc16 xs →
    (∀ a b : Byte, crc16 (xs ++ [a, b]) = 0 ↔ a = c.extractLsb' 0 8 ∧ b = c.extractLsb' 8 8) ∧
    (crc16 (xs ++ [c.extractLsb' 8 8, c.extractLsb' 0 8]) = 0 ↔ c.extractLsb' 8 8 = c.extractLsb' 0 8)

/-- CRC_BLOCK over `xs` leaves `crc_acc = crc16(xs)`, reads it out, and changes nothing else (R85, R151, R210). -/
def Obligations.CrcBlockFoldsTheBytes : Prop :=
  ∀ (s : State) (xs : List Byte) (rest : List Input),
    s.inputs = commandInputs (crcBlock xs) ++ rest →
      ∃ rs : List Word, rs.length = xs.length + 1 ∧
        Host.Core.run Sys2Proof.core (xs.length + 2) s = .next { s with
          inputs := rest
          crcAcc := crc16 xs
          responses := s.responses ++ rs ++ [(crc16 xs).setWidth 32] }

/-! ## Frame encoder -/

/-- TX_START (R125). -/
def Obligations.TxStartFollowsItsRule : Prop :=
  ∀ (flags dest cmd : Byte) (s : State),
    encode (.txStart flags dest cmd) = 0x10#8 ++ flags ++ dest ++ cmd ∧
    (s.cfg.flagsByte = false → flags ≠ 0 →
      exec (.txStart flags dest cmd) s = .next { s with responses := s.responses ++ [0x02000000] }) ∧
    ((s.cfg.flagsByte = true ∨ flags = 0) → s.txState ≠ .txIdle →
      exec (.txStart flags dest cmd) s = .next { s with responses := s.responses ++ [0x01000000] }) ∧
    ((s.cfg.flagsByte = true ∨ flags = 0) → s.txState = .txIdle →
      exec (.txStart flags dest cmd) s = .next { s with
        txFlags := flags
        txDest := dest
        txCmd := cmd
        txBody := []
        txState := .txOpen
        responses := s.responses ++ [0x00000000] })

/-- TX_DATA (R127). -/
def Obligations.TxDataFollowsItsRule : Prop :=
  ∀ (b : Byte) (s : State),
    encode (.txData b) = 0x110000#24 ++ b ∧
    (s.txState ≠ .txOpen →
      exec (.txData b) s = .next { s with responses := s.responses ++ [0x01000000] }) ∧
    (s.txState = .txOpen → s.txBody.length = s.cfg.maxBody.val →
      exec (.txData b) s = .next { s with responses := s.responses ++ [0x03000000] }) ∧
    (s.txState = .txOpen → s.txBody.length ≠ s.cfg.maxBody.val →
      exec (.txData b) s = .next { s with
        txBody := s.txBody ++ [b]
        responses := s.responses ++ [0x00#8 ++ BitVec.ofNat 24 (s.txBody.length + 1)] })

/-- TX_END (R129): the frame of R65 goes out whole, or is held while a line change is unconfirmed. -/
def Obligations.TxEndFollowsItsRule : Prop :=
  encode .txEnd = 0x12000000 ∧
  ∀ s : State,
    (s.txState ≠ .txOpen → exec .txEnd s = .next { s with responses := s.responses ++ [0x01000000] }) ∧
    ∀ (len : Byte) (lg : List Byte) (c : Crc) (frame : List Byte),
      len = BitVec.ofNat 8 s.txBody.length →
      lg = (if s.cfg.flagsByte then [s.txFlags] else []) ++ [s.txDest, s.txCmd, len] ++ s.txBody →
      c = crc16 lg →
      frame = [0xFF, 0xFF] ++ stuff (lg ++ [c.extractLsb' 8 8, c.extractLsb' 0 8]) →
      s.txState = .txOpen →
        (s.linePending = true →
          exec .txEnd s = .next { s with
            txResp := s.cfg.flagsByte && s.txFlags.getLsbD 1
            txFrame := frame
            txState := .txHold
            responses := s.responses ++ [0x00#8 ++ (len ++ c)] }) ∧
        (s.linePending = false →
          exec .txEnd s = .next { s with
            txResp := s.cfg.flagsByte && s.txFlags.getLsbD 1
            txOut := s.txOut ++ frame
            txState := .txSend
            responses := s.responses ++ [0x00#8 ++ (len ++ c)] })

/-- TX_FILL (R130): one byte, stuffed by R68, unframed. -/
def Obligations.TxFillFollowsItsRule : Prop :=
  ∀ (b : Byte) (s : State),
    encode (.txFill b) = 0x130000#24 ++ b ∧
    (s.txState ≠ .txWaitResp ∨ s.linePending = true →
      exec (.txFill b) s = .next { s with responses := s.responses ++ [0x01000000] }) ∧
    (s.txState = .txWaitResp → s.linePending = false →
      exec (.txFill b) s = .next { s with
        txOut := s.txOut ++ (if b = 0xFE then [0xFE, 0x00] else if b = 0xFF then [0xFE, 0x01] else [b])
        responses := s.responses ++ [0x00000000] })

/-- TX_RESP_DONE (R131). -/
def Obligations.TxRespDoneFollowsItsRule : Prop :=
  encode .txRespDone = 0x14000000 ∧
  ∀ s : State,
    (s.txState ≠ .txWaitResp →
      exec .txRespDone s = .next { s with responses := s.responses ++ [0x01000000] }) ∧
    (s.txState = .txWaitResp →
      exec .txRespDone s = .next { s with txState := .txIdle, responses := s.responses ++ [0x00000000] })

/-- TX_DRAIN (R132). -/
def Obligations.TxDrainFollowsItsRule : Prop :=
  ∀ s : State,
    (s.txState = .txSend →
      applyEvent .txDrain s = { s with txState := if s.txResp then .txWaitResp else .txIdle }) ∧
    (s.txState = .txDiscard → applyEvent .txDrain s = { s with txState := .txIdle }) ∧
    (s.txState ≠ .txSend → s.txState ≠ .txDiscard → applyEvent .txDrain s = s)

/-- The encoder moves only along the rules, each move by the input that the rule names (R126, R134). -/
def Obligations.EncoderMovesOnlyAsRuled : Prop :=
  ∀ s t : State, step s = .next t → t.txState ≠ s.txState →
    (∃ rest, s.inputs = .command 0xF0000000 :: rest ∧
      (s.txState = .txSend → t.txState = .txDiscard) ∧ (s.txState ≠ .txSend → t.txState = .txIdle)) ∨
    (∃ flags dest cmd rest, s.inputs = .command (encode (.txStart flags dest cmd)) :: rest ∧
      s.txState = .txIdle ∧ t.txState = .txOpen) ∨
    (∃ rest, s.inputs = .command 0x12000000 :: rest ∧ s.txState = .txOpen ∧
      t.txState = if s.linePending then .txHold else .txSend) ∨
    (∃ rest, s.inputs = .event (.lineConfirm s.lineState) :: rest ∧ s.txState = .txHold ∧ t.txState = .txSend) ∨
    (∃ rest, s.inputs = .event .txDrain :: rest ∧
      (s.txState = .txSend ∧ t.txState = (if s.txResp then .txWaitResp else .txIdle) ∨
        s.txState = .txDiscard ∧ t.txState = .txIdle)) ∨
    (∃ rest, s.inputs = .command 0x14000000 :: rest ∧ s.txState = .txWaitResp ∧ t.txState = .txIdle)

/-- In every run, an encoder that has handed a frame to the transport takes a TX_DRAIN before it leaves TX_SEND and
TX_DISCARD, so no second frame is in the transport before then (R134, R209). -/
def Obligations.FrameInTransportEndsOnlyByDrain : Prop :=
  ∀ (n : Nat) (s t : State), Host.Core.run Sys2Proof.core n s = .next t →
    s.txState = .txSend ∨ s.txState = .txDiscard →
    t.txState ≠ .txSend → t.txState ≠ .txDiscard →
      Input.event .txDrain ∈ s.inputs.take n

/-! ## Byte-stuffing and frames -/

/-- The stuffed bytes hold no 0xFF, every 0xFE is followed by 0x00 or 0x01, and the length grows by the number of
bytes 0xFE and 0xFF (R69). -/
def Obligations.StuffedBytesHoldNoMarker : Prop :=
  ∀ xs : List Byte,
    0xFF ∉ stuff xs ∧
    (∀ i : Nat, (stuff xs)[i]? = some 0xFE → (stuff xs)[i + 1]? = some 0x00 ∨ (stuff xs)[i + 1]? = some 0x01) ∧
    (stuff xs).length = xs.length + (xs.filter fun b => b == 0xFE || b == 0xFF).length

/-- Two byte sequences with the same stuffed form are the same (R68, property c). -/
def Obligations.StuffingLosesNothing : Prop :=
  ∀ xs ys : List Byte, stuff xs = stuff ys → xs = ys

/-- The bounds of R73 on a frame's wire length. -/
def Obligations.WireFrameLengthBounds : Prop :=
  ∀ (cfg : Config) (flags dest cmd len : Byte) (body : List Byte),
    let h := if cfg.flagsByte then 4 else 3
    let wire := (wireFrame (logicalBytes cfg flags dest cmd len body)).length
    2 + h + body.length + 2 ≤ wire ∧ wire ≤ 2 + 2 * (h + body.length + 2) ∧ (body.length ≤ 255 → wire ≤ 524)

/-- A frame of a good message, fed byte by byte to a decoder in any good state, is received: the decoder ends in
READY and, when the message register is free, holds the message; when it is not, the old message is kept and
OVERRUN is set. A partial frame in progress is abandoned with REARM set (R117). -/
def Obligations.FrameIsReceivedFromAnyGoodState : Prop :=
  ∀ (s : State) (m : Msg) (rest : List Input), DecoderInv s → m.good s.cfg →
    s.inputs = rxInputs (wireFrame (m.logical s.cfg)) ++ rest →
      ∃ t, Host.Core.run Sys2Proof.core (wireFrame (m.logical s.cfg)).length s = .next t ∧
        t.inputs = rest ∧ t.rxState = .ready ∧ t.rxValid = true ∧
        (s.rxValid = false → t.rxMsg = m) ∧
        (s.rxValid = true → t.rxMsg = s.rxMsg ∧ t.rxErr.getLsbD 5 = true) ∧
        (s.rxState.inFrame = true → ¬ (s.rxState = .header ∧ s.rxHidx = 0 ∧ s.rxEsc = false) →
          t.rxErr.getLsbD 3 = true)

/-- What one block sends, another of the same parameters receives: the same flags, destination, command, length and
body, and the CRC that TX_END answered (R133). -/
def Obligations.SendThenReceiveRoundTrip : Prop :=
  ∀ (s r : State) (flags dest cmd : Byte) (body : List Byte),
    s.txState = .txIdle → s.linePending = false → (s.cfg.flagsByte = true ∨ flags = 0) →
    body.length ≤ s.cfg.maxBody.val →
    s.inputs = commandInputs (sendCommands flags dest cmd body) →
    r.cfg = s.cfg → DecoderInv r → r.rxValid = false →
      ∃ (t : State) (frame : List Byte) (c : Crc) (u : State),
        Host.Core.run Sys2Proof.core (body.length + 2) s = .next t ∧
        t.txState = .txSend ∧ t.txOut = s.txOut ++ frame ∧
        t.responses.getLast? = some (0x00#8 ++ (BitVec.ofNat 8 body.length ++ c)) ∧
        Host.Core.run Sys2Proof.core frame.length { r with inputs := rxInputs frame } = .next u ∧
        u.rxState = .ready ∧ u.rxValid = true ∧
        u.rxMsg = ⟨flags, dest, cmd, BitVec.ofNat 8 body.length, body, c⟩

/-! ## Frame decoder -/

/-- A byte outside a frame: the marker's first byte is remembered, any other is dropped, and the second marker byte
begins a frame (R101, R102, R106). -/
def Obligations.MarkerBytesFollowTheirRules : Prop :=
  ∀ (b : Byte) (s : State),
    (s.rxState = .waitSom1 ∨ s.rxState = .ready ∨ s.rxState = .aborted →
      applyEvent (.rxByte b) s = { s with rxState := if b = 0xFF then .waitSom2 else .waitSom1 }) ∧
    (s.rxState = .waitSom2 → b ≠ 0xFF → applyEvent (.rxByte b) s = { s with rxState := .waitSom1 }) ∧
    (s.rxState = .waitSom2 → b = 0xFF → applyEvent (.rxByte b) s = { s with
      rxState := .header, rxHidx := 0, rxEsc := false, rxCrc := 0xFFFF, rxBody := [], rxCidx := 0, rxFlags := 0 })

/-- A wire 0xFF inside a frame re-arms with REARM set, whatever the escape state; before the first header byte it is
part of the marker run (R103). -/
def Obligations.MarkerInsideFrameRearms : Prop :=
  ∀ s : State, s.rxState.inFrame = true →
    (s.rxState = .header ∧ s.rxHidx = 0 ∧ s.rxEsc = false → applyEvent (.rxByte 0xFF) s = s) ∧
    (¬ (s.rxState = .header ∧ s.rxHidx = 0 ∧ s.rxEsc = false) →
      applyEvent (.rxByte 0xFF) s =
        { s with rxErr := s.rxErr ||| 0b001000, rxEsc := false, rxState := .waitSom2 })

/-- The escape byte and the byte after it, and every other byte of a frame (R104, R105). -/
def Obligations.EscapedBytesFollowTheirRules : Prop :=
  ∀ (b : Byte) (s : State), s.rxState.inFrame = true → b ≠ 0xFF →
    (s.rxEsc = false → b = 0xFE → applyEvent (.rxByte b) s = { s with rxEsc := true }) ∧
    (s.rxEsc = false → b ≠ 0xFE → applyEvent (.rxByte b) s = logicalByte b s) ∧
    (s.rxEsc = true → b = 0x00 → applyEvent (.rxByte b) s = logicalByte 0xFE { s with rxEsc := false }) ∧
    (s.rxEsc = true → b = 0x01 → applyEvent (.rxByte b) s = logicalByte 0xFF { s with rxEsc := false }) ∧
    (s.rxEsc = true → b ≠ 0x00 → b ≠ 0x01 → applyEvent (.rxByte b) s =
      { s with rxEsc := false, rxErr := s.rxErr ||| 0b000100, rxState := .aborted })

/-- Logical(v) in HEADER (R107), field by field: `k` is 0 flags, 1 destination, 2 command, 3 length. -/
def Obligations.HeaderBytesFollowTheirRule : Prop :=
  ∀ (v : Byte) (s : State) (k : Nat), s.rxState = .header →
    k = (if s.cfg.flagsByte then s.rxHidx else s.rxHidx + 1) →
    ∀ u : State, u = { s with rxCrc := crc16Step s.rxCrc v, rxHidx := s.rxHidx + 1 } →
      (k = 0 → logicalByte v s = { u with rxFlags := v }) ∧
      (k = 1 → logicalByte v s = { u with rxDest := v }) ∧
      (k = 2 → logicalByte v s = { u with rxCmd := v }) ∧
      (k = 3 → s.cfg.maxBody.val < v.toNat → logicalByte v s =
        { u with rxLen := v, rxErr := s.rxErr ||| 0b000010, rxState := .aborted }) ∧
      (k = 3 → v = 0 → logicalByte v s = { u with rxLen := v, rxState := .crc, rxCidx := 0 }) ∧
      (k = 3 → v ≠ 0 → v.toNat ≤ s.cfg.maxBody.val → logicalByte v s = { u with rxLen := v, rxState := .body })

/-- Logical(v) in BODY (R108). -/
def Obligations.BodyBytesFollowTheirRule : Prop :=
  ∀ (v : Byte) (s : State), s.rxState = .body →
    ∀ u : State, u = { s with rxCrc := crc16Step s.rxCrc v, rxBody := s.rxBody ++ [v] } →
      (s.rxBody.length + 1 = s.rxLen.toNat → logicalByte v s = { u with rxState := .crc, rxCidx := 0 }) ∧
      (s.rxBody.length + 1 ≠ s.rxLen.toNat → logicalByte v s = u)

/-- Logical(v) in CRC: the first byte is kept, the second one ends the frame by comparison with the running CRC
(R109), and a match loads the message register or is dropped with OVERRUN (R110). -/
def Obligations.CrcBytesFollowTheirRules : Prop :=
  ∀ (v : Byte) (s : State), s.rxState = .crc →
    (s.rxCidx = 0 → logicalByte v s = { s with rxChi := v, rxCidx := 1 }) ∧
    (s.rxCidx ≠ 0 → s.rxChi ++ v ≠ s.rxCrc → logicalByte v s =
      { s with rxErr := s.rxErr ||| 0b000001, rxState := .aborted }) ∧
    (s.rxCidx ≠ 0 → s.rxChi ++ v = s.rxCrc → s.rxValid = true → logicalByte v s =
      { s with rxErr := s.rxErr ||| 0b100000, rxState := .ready }) ∧
    (s.rxCidx ≠ 0 → s.rxChi ++ v = s.rxCrc → s.rxValid = false → logicalByte v s =
      { s with
        rxMsg := ⟨s.rxFlags, s.rxDest, s.rxCmd, s.rxLen, s.rxBody, s.rxChi ++ v⟩
        rxValid := true
        rxState := .ready })

/-- RX_TIMEOUT (R111). -/
def Obligations.RxTimeoutFollowsItsRule : Prop :=
  ∀ s : State,
    (s.rxState.inFrame = true → applyEvent .rxTimeout s =
      { s with rxErr := s.rxErr ||| 0b010000, rxState := .waitSom1, rxEsc := false }) ∧
    (s.rxState.inFrame = false → applyEvent .rxTimeout s = { s with rxState := .waitSom1, rxEsc := false })

/-- RX_HDR (R113) and RX_LEN_CRC (R114). In a good state the flags field of an instance without flags reads zero. -/
def Obligations.RxHdrAndRxLenCrcFollowTheirRules : Prop :=
  encode .rxHdr = 0x20000000 ∧ encode .rxLenCrc = 0x21000000 ∧
  ∀ s : State,
    (s.rxValid = false →
      exec .rxHdr s = .next { s with responses := s.responses ++ [0x05000000] } ∧
      exec .rxLenCrc s = .next { s with responses := s.responses ++ [0x05000000] }) ∧
    (s.rxValid = true →
      exec .rxHdr s = .next { s with
        responses := s.responses ++ [0x00#8 ++ (s.rxMsg.flags ++ s.rxMsg.dest ++ s.rxMsg.cmd)] } ∧
      exec .rxLenCrc s = .next { s with
        responses := s.responses ++ [0x00#8 ++ (s.rxMsg.len ++ s.rxMsg.crc)] }) ∧
    (s.rxValid = true → DecoderInv s → s.cfg.flagsByte = false → s.rxMsg.flags = 0)

/-- RX_BODY (R115), EMPTY before RANGE (R172). Within the length a good state's buffer holds the byte. -/
def Obligations.RxBodyFollowsItsRule : Prop :=
  ∀ (index : Byte) (s : State),
    encode (.rxBody index) = 0x220000#24 ++ index ∧
    (s.rxValid = false →
      exec (.rxBody index) s = .next { s with responses := s.responses ++ [0x05000000] }) ∧
    (s.rxValid = true → s.rxMsg.len.toNat ≤ index.toNat →
      exec (.rxBody index) s = .next { s with responses := s.responses ++ [0x04000000] }) ∧
    (s.rxValid = true → index.toNat < s.rxMsg.len.toNat →
      (∀ b : Byte, s.rxMsg.body[index.toNat]? = some b →
        exec (.rxBody index) s = .next { s with responses := s.responses ++ [b.setWidth 32] }) ∧
      (DecoderInv s → ∃ b : Byte, s.rxMsg.body[index.toNat]? = some b))

/-- RX_POP (R116). -/
def Obligations.RxPopFollowsItsRule : Prop :=
  encode .rxPop = 0x23000000 ∧
  ∀ s : State,
    (s.rxValid = false → exec .rxPop s = .next { s with responses := s.responses ++ [0x05000000] }) ∧
    (s.rxValid = true → exec .rxPop s = .next { s with
      rxValid := false
      responses := s.responses ++ [0x00000000] })

/-- The message register changes in two ways only: RX_POP or SOFT_RESET empties it, and a frame whose CRC matched
fills it when it is free. Every discarded frame leaves it as it was (R110, R119). -/
def Obligations.OnlyAMatchingFrameIsDelivered : Prop :=
  ∀ s t : State, step s = .next t →
    (t.rxValid = s.rxValid ∧ t.rxMsg = s.rxMsg) ∨
    (t.rxValid = false ∧ t.rxMsg = s.rxMsg ∧
      ∃ rest, s.inputs = .command 0x23000000 :: rest ∨ s.inputs = .command 0xF0000000 :: rest) ∨
    (s.rxValid = false ∧ t.rxValid = true ∧ s.rxState = .crc ∧ s.rxCidx ≠ 0 ∧ t.rxState = .ready ∧
      t.rxErr = s.rxErr ∧ t.rxMsg = ⟨s.rxFlags, s.rxDest, s.rxCmd, s.rxLen, s.rxBody, s.rxCrc⟩)

/-- One step raises at most one receive-error flag, and only a receive event raises one (R173, R137). -/
def Obligations.AtMostOneFlagPerStep : Prop :=
  ∀ s t : State, step s = .next t →
    (∃ k : Fin 6, t.rxErr = s.rxErr ||| 1#6 <<< k.val) ∧
      (∃ e rest, s.inputs = .event e :: rest ∧ ((∃ b, e = .rxByte b) ∨ e = .rxTimeout)) ∨
    t.rxErr &&& ~~~s.rxErr = 0

/-! ## Line arbiter -/

/-- LINE_ENABLE (R153). -/
def Obligations.LineEnableFollowsItsRule : Prop :=
  encode .lineEnable = 0x30000000 ∧
  ∀ s : State,
    (s.txState = .txHold ∨ s.txState = .txSend ∨ s.txState = .txDiscard →
      exec .lineEnable s = .next { s with responses := s.responses ++ [0x01000000] }) ∧
    (s.txState = .txIdle ∨ s.txState = .txOpen ∨ s.txState = .txWaitResp → s.lineState = .disabled →
      exec .lineEnable s = .next { s with
        lineState := .enabled
        linePending := true
        responses := s.responses ++ [0x00000000] }) ∧
    (s.txState = .txIdle ∨ s.txState = .txOpen ∨ s.txState = .txWaitResp → s.lineState = .enabled →
      exec .lineEnable s = .next { s with responses := s.responses ++ [0x00000000] })

/-- LINE_DISABLE (R154). -/
def Obligations.LineDisableFollowsItsRule : Prop :=
  encode .lineDisable = 0x31000000 ∧
  ∀ s : State,
    (s.txState = .txHold ∨ s.txState = .txSend ∨ s.txState = .txDiscard →
      exec .lineDisable s = .next { s with responses := s.responses ++ [0x01000000] }) ∧
    (s.txState = .txIdle ∨ s.txState = .txOpen ∨ s.txState = .txWaitResp → s.lineState = .enabled →
      exec .lineDisable s = .next { s with
        lineState := .disabled
        linePending := true
        responses := s.responses ++ [0x00000000] }) ∧
    (s.txState = .txIdle ∨ s.txState = .txOpen ∨ s.txState = .txWaitResp → s.lineState = .disabled →
      exec .lineDisable s = .next { s with responses := s.responses ++ [0x00000000] })

/-- LINE_CONFIRM (R155). -/
def Obligations.LineConfirmFollowsItsRule : Prop :=
  ∀ (v : LineState) (s : State),
    (s.linePending = false ∨ v ≠ s.lineState → applyEvent (.lineConfirm v) s = s) ∧
    (s.linePending = true → v = s.lineState → s.txState ≠ .txHold →
      applyEvent (.lineConfirm v) s = { s with linePending := false }) ∧
    (s.linePending = true → v = s.lineState → s.txState = .txHold →
      applyEvent (.lineConfirm v) s =
        { s with linePending := false, txOut := s.txOut ++ s.txFrame, txState := .txSend })

/-- While a level change is unconfirmed nothing enters the output stream, but for the held frame that the confirm of
the requested level releases (R157). -/
def Obligations.NothingIsSentWhileTheLineIsPending : Prop :=
  ∀ s t : State, step s = .next t → s.linePending = true →
    t.txOut = s.txOut ∨
    (∃ rest, s.inputs = .event (.lineConfirm s.lineState) :: rest) ∧ s.txState = .txHold ∧
      t.linePending = false ∧ t.txState = .txSend ∧ t.txOut = s.txOut ++ s.txFrame

/-- While a frame is held, on the wire or being discarded, only SOFT_RESET changes the requested level (R153, R154,
R157; that SOFT_RESET may is R167, log 10). -/
def Obligations.LevelIsKeptWhileAFrameIsOut : Prop :=
  ∀ s t : State, step s = .next t →
    s.txState = .txHold ∨ s.txState = .txSend ∨ s.txState = .txDiscard →
    (∀ rest, s.inputs ≠ .command 0xF0000000 :: rest) →
      t.lineState = s.lineState ∧ (t.linePending = true → s.linePending = true)

/-- The level outputs: RX_READY (R43), TX_BUSY, which is 0 exactly when the state check of TX_START passes (R44), and
LINE_OUT for either value of LINE_ACTIVE_LOW (R45). -/
def Obligations.LevelOutputsFollowTheState : Prop :=
  ∀ s : State,
    rxReady s = s.rxValid ∧
    (txBusy s = true ↔ s.txState ≠ .txIdle) ∧
    (∀ dest cmd : Byte, txBusy s = false ↔
      ∃ t, exec (.txStart 0 dest cmd) s = .next t ∧ t.responses = s.responses ++ [0x00000000]) ∧
    (∀ activeLow : Bool, lineOut activeLow s = true ↔
      s.lineState = .enabled ∧ activeLow = false ∨ s.lineState = .disabled ∧ activeLow = true)

/-! ## Control commands -/

/-- NOP (R166). -/
def Obligations.NopFollowsItsRule : Prop :=
  encode .nop = 0x00000000 ∧
  ∀ s : State, exec .nop s = .next { s with responses := s.responses ++ [0x00000000] }

/-- STATUS, field by field (R164, with the codes of R19, R32, R40). -/
def Obligations.StatusFollowsItsRule : Prop :=
  encode .status = 0x40000000 ∧
  ∀ s : State, ∃ w : Word,
    exec .status s = .next { s with responses := s.responses ++ [w] } ∧
    w.extractLsb' 24 8 = 0 ∧
    w.extractLsb' 0 3 = (match s.rxState with
      | .waitSom1 => 0 | .waitSom2 => 1 | .header => 2 | .body => 3 | .crc => 4 | .ready => 5 | .aborted => 6) ∧
    w.getLsbD 3 = s.rxValid ∧
    w.extractLsb' 4 3 = (match s.txState with
      | .txIdle => 0 | .txOpen => 1 | .txHold => 2 | .txSend => 3 | .txWaitResp => 4 | .txDiscard => 5) ∧
    w.getLsbD 7 = false ∧
    (w.getLsbD 8 = true ↔ s.lineState = .enabled) ∧
    w.getLsbD 9 = s.linePending ∧
    w.extractLsb' 10 6 = 0 ∧
    w.extractLsb' 16 6 = s.rxErr ∧
    w.extractLsb' 22 2 = 0

/-- CLEAR_FLAGS (R165). -/
def Obligations.ClearFlagsFollowsItsRule : Prop :=
  ∀ (mask : BitVec 6) (s : State),
    encode (.clearFlags mask) = 0x1040000#26 ++ mask ∧
    exec (.clearFlags mask) s = .next { s with
      rxErr := s.rxErr &&& ~~~mask
      responses := s.responses ++ [s.rxErr.setWidth 32] }

/-- SOFT_RESET (R167), field by field as R196 compares it with power-on. -/
def Obligations.SoftResetFollowsItsRule : Prop :=
  encode .softReset = 0xF0000000 ∧
  ∀ s : State, ∃ tx : TxState, ∃ pending : Bool,
    (s.txState = .txSend ∨ s.txState = .txDiscard → tx = .txDiscard) ∧
    (s.txState ≠ .txSend → s.txState ≠ .txDiscard → tx = .txIdle) ∧
    (pending = true ↔ s.linePending = true ∨ s.lineState = .enabled) ∧
    exec .softReset s = .next { s with
      crcAcc := 0xFFFF
      rxState := .waitSom1
      rxEsc := false
      rxHidx := 0
      rxBody := []
      rxCidx := 0
      rxValid := false
      rxErr := 0
      txState := tx
      txBody := []
      txResp := false
      linePending := pending
      lineState := .disabled
      responses := s.responses ++ [0x00000000] }

/-! ## Rules of the whole machine -/

/-- A command whose answer is not OK has changed nothing, and its data field is zero (R76, R170). -/
def Obligations.RejectionChangesNothing : Prop :=
  ∀ (i : Instr) (s t : State), exec i s = .next t →
    ∃ r : Word, t.responses = s.responses ++ [r] ∧
      (r.extractLsb' 24 8 ≠ 0 → r.extractLsb' 0 24 = 0 ∧ t = { s with responses := s.responses ++ [r] })

/-- Issuing these commands again has no further effect, and these others are refused the second time (R57). -/
def Obligations.RepeatedCommandsFollowTheirRule : Prop :=
  (∀ (i : Instr) (mask : BitVec 6) (index : Byte) (s t u : State),
    i ∈ [Instr.nop, .crcRead, .rxHdr, .rxLenCrc, .rxBody index, .status,
      .lineEnable, .lineDisable, .clearFlags mask, .crcInit, .softReset] →
    exec i s = .next t → exec i t = .next u → u = { t with responses := u.responses }) ∧
  (∀ (i : Instr) (flags dest cmd : Byte) (s t : State) (d : Data),
    i ∈ [Instr.rxPop, .txStart flags dest cmd, .txEnd, .txRespDone] →
    exec i s = .next t → t.responses = s.responses ++ [0x00#8 ++ d] →
      ∃ r : Word, exec i t = .next { t with responses := t.responses ++ [r] } ∧ r.extractLsb' 24 8 ≠ 0)

/-- No receive event reads or writes a field of the encoder, the line arbiter or the host's CRC (R119, R137). -/
def Obligations.ReceiveEventsLeaveTheEncoderAlone : Prop :=
  ∀ (e : Event) (s : State), (∃ b, e = .rxByte b) ∨ e = .rxTimeout →
    ∀ (tx : TxState) (flags dest cmd : Byte) (body frame out : List Byte) (resp pending : Bool) (line : LineState)
      (acc : Crc),
      applyEvent e { s with txState := tx, txFlags := flags, txDest := dest, txCmd := cmd, txBody := body,
                            txFrame := frame, txOut := out, txResp := resp, linePending := pending,
                            lineState := line, crcAcc := acc } =
        { applyEvent e s with txState := tx, txFlags := flags, txDest := dest, txCmd := cmd, txBody := body,
                              txFrame := frame, txOut := out, txResp := resp, linePending := pending,
                              lineState := line, crcAcc := acc }

/-- No encoder command and no TX_DRAIN reads or writes a field of the decoder or a receive-error flag (R137). -/
def Obligations.EncoderCommandsLeaveTheDecoderAlone : Prop :=
  ∀ (s t : State) (flags dest cmd b : Byte) (rx : RxState) (esc valid : Bool) (hidx cidx : Nat)
    (rf rd rc rl chi : Byte) (body : List Byte) (crc : Crc) (m : Msg) (err : BitVec 6),
    let set := fun x : State => { x with
      rxState := rx, rxEsc := esc, rxHidx := hidx, rxFlags := rf, rxDest := rd, rxCmd := rc, rxLen := rl,
      rxBody := body, rxCrc := crc, rxCidx := cidx, rxChi := chi, rxValid := valid, rxMsg := m, rxErr := err }
    (∀ i ∈ [Instr.txStart flags dest cmd, .txData b, .txEnd, .txFill b, .txRespDone],
      exec i s = .next t → exec i (set s) = .next (set t)) ∧
    applyEvent .txDrain (set s) = set (applyEvent .txDrain s)

/-- The receive-error flags report only: apart from STATUS and CLEAR_FLAGS no command's answer and no other field
depends on them (R30). -/
def Obligations.FlagsReportOnly : Prop :=
  ∀ (s : State) (f : BitVec 6),
    (∀ e : Event, ∃ g, applyEvent e { s with rxErr := f } = { applyEvent e s with rxErr := g }) ∧
    (∀ (i : Instr) (t : State), i ≠ .status → (∀ mask, i ≠ .clearFlags mask) → exec i s = .next t →
      ∃ g, exec i { s with rxErr := f } = .next { t with rxErr := g })

/-- With `rx_valid = 0` the message register is not observable: no step depends on its content, and a message
delivered later overwrites it whole (R28). -/
def Obligations.EmptyMessageRegisterIsUnobservable : Prop :=
  ∀ (s t : State) (m : Msg), s.rxValid = false → step s = .next t →
    ∃ m' : Msg, step { s with rxMsg := m } = .next { t with rxMsg := m' } ∧ (t.rxValid = true → m' = t.rxMsg)
end

