-- ==== Sys2Proof/Laws/State.lean ====
section
/-! SUPPORT. The fields of a state after each shared update, one lemma per field and update, so that no later proof
unfolds an update. -/

namespace Sys2Proof.Machine

@[simp] theorem setFlag_cfg (f : RxFlag) (s : State) : (setFlag f s).cfg = s.cfg := rfl
@[simp] theorem setFlag_crcAcc (f : RxFlag) (s : State) : (setFlag f s).crcAcc = s.crcAcc := rfl
@[simp] theorem setFlag_rxState (f : RxFlag) (s : State) : (setFlag f s).rxState = s.rxState := rfl
@[simp] theorem setFlag_rxEsc (f : RxFlag) (s : State) : (setFlag f s).rxEsc = s.rxEsc := rfl
@[simp] theorem setFlag_rxHidx (f : RxFlag) (s : State) : (setFlag f s).rxHidx = s.rxHidx := rfl
@[simp] theorem setFlag_rxFlags (f : RxFlag) (s : State) : (setFlag f s).rxFlags = s.rxFlags := rfl
@[simp] theorem setFlag_rxDest (f : RxFlag) (s : State) : (setFlag f s).rxDest = s.rxDest := rfl
@[simp] theorem setFlag_rxCmd (f : RxFlag) (s : State) : (setFlag f s).rxCmd = s.rxCmd := rfl
@[simp] theorem setFlag_rxLen (f : RxFlag) (s : State) : (setFlag f s).rxLen = s.rxLen := rfl
@[simp] theorem setFlag_rxBody (f : RxFlag) (s : State) : (setFlag f s).rxBody = s.rxBody := rfl
@[simp] theorem setFlag_rxCrc (f : RxFlag) (s : State) : (setFlag f s).rxCrc = s.rxCrc := rfl
@[simp] theorem setFlag_rxCidx (f : RxFlag) (s : State) : (setFlag f s).rxCidx = s.rxCidx := rfl
@[simp] theorem setFlag_rxChi (f : RxFlag) (s : State) : (setFlag f s).rxChi = s.rxChi := rfl
@[simp] theorem setFlag_rxValid (f : RxFlag) (s : State) : (setFlag f s).rxValid = s.rxValid := rfl
@[simp] theorem setFlag_rxMsg (f : RxFlag) (s : State) : (setFlag f s).rxMsg = s.rxMsg := rfl
@[simp] theorem setFlag_rxErr (f : RxFlag) (s : State) :
    (setFlag f s).rxErr = s.rxErr ||| BitVec.ofNat 6 (2 ^ f.bit) := rfl
@[simp] theorem setFlag_txState (f : RxFlag) (s : State) : (setFlag f s).txState = s.txState := rfl
@[simp] theorem setFlag_txFlags (f : RxFlag) (s : State) : (setFlag f s).txFlags = s.txFlags := rfl
@[simp] theorem setFlag_txDest (f : RxFlag) (s : State) : (setFlag f s).txDest = s.txDest := rfl
@[simp] theorem setFlag_txCmd (f : RxFlag) (s : State) : (setFlag f s).txCmd = s.txCmd := rfl
@[simp] theorem setFlag_txBody (f : RxFlag) (s : State) : (setFlag f s).txBody = s.txBody := rfl
@[simp] theorem setFlag_txFrame (f : RxFlag) (s : State) : (setFlag f s).txFrame = s.txFrame := rfl
@[simp] theorem setFlag_txResp (f : RxFlag) (s : State) : (setFlag f s).txResp = s.txResp := rfl
@[simp] theorem setFlag_txOut (f : RxFlag) (s : State) : (setFlag f s).txOut = s.txOut := rfl
@[simp] theorem setFlag_lineState (f : RxFlag) (s : State) : (setFlag f s).lineState = s.lineState := rfl
@[simp] theorem setFlag_linePending (f : RxFlag) (s : State) : (setFlag f s).linePending = s.linePending := rfl
@[simp] theorem setFlag_inputs (f : RxFlag) (s : State) : (setFlag f s).inputs = s.inputs := rfl
@[simp] theorem setFlag_responses (f : RxFlag) (s : State) : (setFlag f s).responses = s.responses := rfl

@[simp] theorem clearFlags_cfg (mask : BitVec 6) (s : State) : (clearFlags mask s).cfg = s.cfg := rfl
@[simp] theorem clearFlags_crcAcc (mask : BitVec 6) (s : State) : (clearFlags mask s).crcAcc = s.crcAcc := rfl
@[simp] theorem clearFlags_rxState (mask : BitVec 6) (s : State) : (clearFlags mask s).rxState = s.rxState := rfl
@[simp] theorem clearFlags_rxEsc (mask : BitVec 6) (s : State) : (clearFlags mask s).rxEsc = s.rxEsc := rfl
@[simp] theorem clearFlags_rxHidx (mask : BitVec 6) (s : State) : (clearFlags mask s).rxHidx = s.rxHidx := rfl
@[simp] theorem clearFlags_rxFlags (mask : BitVec 6) (s : State) : (clearFlags mask s).rxFlags = s.rxFlags := rfl
@[simp] theorem clearFlags_rxDest (mask : BitVec 6) (s : State) : (clearFlags mask s).rxDest = s.rxDest := rfl
@[simp] theorem clearFlags_rxCmd (mask : BitVec 6) (s : State) : (clearFlags mask s).rxCmd = s.rxCmd := rfl
@[simp] theorem clearFlags_rxLen (mask : BitVec 6) (s : State) : (clearFlags mask s).rxLen = s.rxLen := rfl
@[simp] theorem clearFlags_rxBody (mask : BitVec 6) (s : State) : (clearFlags mask s).rxBody = s.rxBody := rfl
@[simp] theorem clearFlags_rxCrc (mask : BitVec 6) (s : State) : (clearFlags mask s).rxCrc = s.rxCrc := rfl
@[simp] theorem clearFlags_rxCidx (mask : BitVec 6) (s : State) : (clearFlags mask s).rxCidx = s.rxCidx := rfl
@[simp] theorem clearFlags_rxChi (mask : BitVec 6) (s : State) : (clearFlags mask s).rxChi = s.rxChi := rfl
@[simp] theorem clearFlags_rxValid (mask : BitVec 6) (s : State) : (clearFlags mask s).rxValid = s.rxValid := rfl
@[simp] theorem clearFlags_rxMsg (mask : BitVec 6) (s : State) : (clearFlags mask s).rxMsg = s.rxMsg := rfl
@[simp] theorem clearFlags_rxErr (mask : BitVec 6) (s : State) :
    (clearFlags mask s).rxErr = s.rxErr &&& ~~~mask := rfl
@[simp] theorem clearFlags_txState (mask : BitVec 6) (s : State) : (clearFlags mask s).txState = s.txState := rfl
@[simp] theorem clearFlags_txFlags (mask : BitVec 6) (s : State) : (clearFlags mask s).txFlags = s.txFlags := rfl
@[simp] theorem clearFlags_txDest (mask : BitVec 6) (s : State) : (clearFlags mask s).txDest = s.txDest := rfl
@[simp] theorem clearFlags_txCmd (mask : BitVec 6) (s : State) : (clearFlags mask s).txCmd = s.txCmd := rfl
@[simp] theorem clearFlags_txBody (mask : BitVec 6) (s : State) : (clearFlags mask s).txBody = s.txBody := rfl
@[simp] theorem clearFlags_txFrame (mask : BitVec 6) (s : State) : (clearFlags mask s).txFrame = s.txFrame := rfl
@[simp] theorem clearFlags_txResp (mask : BitVec 6) (s : State) : (clearFlags mask s).txResp = s.txResp := rfl
@[simp] theorem clearFlags_txOut (mask : BitVec 6) (s : State) : (clearFlags mask s).txOut = s.txOut := rfl
@[simp] theorem clearFlags_lineState (mask : BitVec 6) (s : State) :
    (clearFlags mask s).lineState = s.lineState := rfl
@[simp] theorem clearFlags_linePending (mask : BitVec 6) (s : State) :
    (clearFlags mask s).linePending = s.linePending := rfl
@[simp] theorem clearFlags_inputs (mask : BitVec 6) (s : State) : (clearFlags mask s).inputs = s.inputs := rfl
@[simp] theorem clearFlags_responses (mask : BitVec 6) (s : State) :
    (clearFlags mask s).responses = s.responses := rfl

@[simp] theorem emit_cfg (xs : List Byte) (s : State) : (emit xs s).cfg = s.cfg := rfl
@[simp] theorem emit_crcAcc (xs : List Byte) (s : State) : (emit xs s).crcAcc = s.crcAcc := rfl
@[simp] theorem emit_rxState (xs : List Byte) (s : State) : (emit xs s).rxState = s.rxState := rfl
@[simp] theorem emit_rxEsc (xs : List Byte) (s : State) : (emit xs s).rxEsc = s.rxEsc := rfl
@[simp] theorem emit_rxHidx (xs : List Byte) (s : State) : (emit xs s).rxHidx = s.rxHidx := rfl
@[simp] theorem emit_rxFlags (xs : List Byte) (s : State) : (emit xs s).rxFlags = s.rxFlags := rfl
@[simp] theorem emit_rxDest (xs : List Byte) (s : State) : (emit xs s).rxDest = s.rxDest := rfl
@[simp] theorem emit_rxCmd (xs : List Byte) (s : State) : (emit xs s).rxCmd = s.rxCmd := rfl
@[simp] theorem emit_rxLen (xs : List Byte) (s : State) : (emit xs s).rxLen = s.rxLen := rfl
@[simp] theorem emit_rxBody (xs : List Byte) (s : State) : (emit xs s).rxBody = s.rxBody := rfl
@[simp] theorem emit_rxCrc (xs : List Byte) (s : State) : (emit xs s).rxCrc = s.rxCrc := rfl
@[simp] theorem emit_rxCidx (xs : List Byte) (s : State) : (emit xs s).rxCidx = s.rxCidx := rfl
@[simp] theorem emit_rxChi (xs : List Byte) (s : State) : (emit xs s).rxChi = s.rxChi := rfl
@[simp] theorem emit_rxValid (xs : List Byte) (s : State) : (emit xs s).rxValid = s.rxValid := rfl
@[simp] theorem emit_rxMsg (xs : List Byte) (s : State) : (emit xs s).rxMsg = s.rxMsg := rfl
@[simp] theorem emit_rxErr (xs : List Byte) (s : State) : (emit xs s).rxErr = s.rxErr := rfl
@[simp] theorem emit_txState (xs : List Byte) (s : State) : (emit xs s).txState = s.txState := rfl
@[simp] theorem emit_txFlags (xs : List Byte) (s : State) : (emit xs s).txFlags = s.txFlags := rfl
@[simp] theorem emit_txDest (xs : List Byte) (s : State) : (emit xs s).txDest = s.txDest := rfl
@[simp] theorem emit_txCmd (xs : List Byte) (s : State) : (emit xs s).txCmd = s.txCmd := rfl
@[simp] theorem emit_txBody (xs : List Byte) (s : State) : (emit xs s).txBody = s.txBody := rfl
@[simp] theorem emit_txFrame (xs : List Byte) (s : State) : (emit xs s).txFrame = s.txFrame := rfl
@[simp] theorem emit_txResp (xs : List Byte) (s : State) : (emit xs s).txResp = s.txResp := rfl
@[simp] theorem emit_txOut (xs : List Byte) (s : State) : (emit xs s).txOut = s.txOut ++ xs := rfl
@[simp] theorem emit_lineState (xs : List Byte) (s : State) : (emit xs s).lineState = s.lineState := rfl
@[simp] theorem emit_linePending (xs : List Byte) (s : State) : (emit xs s).linePending = s.linePending := rfl
@[simp] theorem emit_inputs (xs : List Byte) (s : State) : (emit xs s).inputs = s.inputs := rfl
@[simp] theorem emit_responses (xs : List Byte) (s : State) : (emit xs s).responses = s.responses := rfl

@[simp] theorem respond_cfg (rc : ResultCode) (d : Data) (s : State) : (respond rc d s).cfg = s.cfg := rfl
@[simp] theorem respond_crcAcc (rc : ResultCode) (d : Data) (s : State) : (respond rc d s).crcAcc = s.crcAcc := rfl
@[simp] theorem respond_rxState (rc : ResultCode) (d : Data) (s : State) :
    (respond rc d s).rxState = s.rxState := rfl
@[simp] theorem respond_rxEsc (rc : ResultCode) (d : Data) (s : State) : (respond rc d s).rxEsc = s.rxEsc := rfl
@[simp] theorem respond_rxHidx (rc : ResultCode) (d : Data) (s : State) : (respond rc d s).rxHidx = s.rxHidx := rfl
@[simp] theorem respond_rxFlags (rc : ResultCode) (d : Data) (s : State) :
    (respond rc d s).rxFlags = s.rxFlags := rfl
@[simp] theorem respond_rxDest (rc : ResultCode) (d : Data) (s : State) : (respond rc d s).rxDest = s.rxDest := rfl
@[simp] theorem respond_rxCmd (rc : ResultCode) (d : Data) (s : State) : (respond rc d s).rxCmd = s.rxCmd := rfl
@[simp] theorem respond_rxLen (rc : ResultCode) (d : Data) (s : State) : (respond rc d s).rxLen = s.rxLen := rfl
@[simp] theorem respond_rxBody (rc : ResultCode) (d : Data) (s : State) : (respond rc d s).rxBody = s.rxBody := rfl
@[simp] theorem respond_rxCrc (rc : ResultCode) (d : Data) (s : State) : (respond rc d s).rxCrc = s.rxCrc := rfl
@[simp] theorem respond_rxCidx (rc : ResultCode) (d : Data) (s : State) : (respond rc d s).rxCidx = s.rxCidx := rfl
@[simp] theorem respond_rxChi (rc : ResultCode) (d : Data) (s : State) : (respond rc d s).rxChi = s.rxChi := rfl
@[simp] theorem respond_rxValid (rc : ResultCode) (d : Data) (s : State) :
    (respond rc d s).rxValid = s.rxValid := rfl
@[simp] theorem respond_rxMsg (rc : ResultCode) (d : Data) (s : State) : (respond rc d s).rxMsg = s.rxMsg := rfl
@[simp] theorem respond_rxErr (rc : ResultCode) (d : Data) (s : State) : (respond rc d s).rxErr = s.rxErr := rfl
@[simp] theorem respond_txState (rc : ResultCode) (d : Data) (s : State) :
    (respond rc d s).txState = s.txState := rfl
@[simp] theorem respond_txFlags (rc : ResultCode) (d : Data) (s : State) :
    (respond rc d s).txFlags = s.txFlags := rfl
@[simp] theorem respond_txDest (rc : ResultCode) (d : Data) (s : State) : (respond rc d s).txDest = s.txDest := rfl
@[simp] theorem respond_txCmd (rc : ResultCode) (d : Data) (s : State) : (respond rc d s).txCmd = s.txCmd := rfl
@[simp] theorem respond_txBody (rc : ResultCode) (d : Data) (s : State) : (respond rc d s).txBody = s.txBody := rfl
@[simp] theorem respond_txFrame (rc : ResultCode) (d : Data) (s : State) :
    (respond rc d s).txFrame = s.txFrame := rfl
@[simp] theorem respond_txResp (rc : ResultCode) (d : Data) (s : State) : (respond rc d s).txResp = s.txResp := rfl
@[simp] theorem respond_txOut (rc : ResultCode) (d : Data) (s : State) : (respond rc d s).txOut = s.txOut := rfl
@[simp] theorem respond_lineState (rc : ResultCode) (d : Data) (s : State) :
    (respond rc d s).lineState = s.lineState := rfl
@[simp] theorem respond_linePending (rc : ResultCode) (d : Data) (s : State) :
    (respond rc d s).linePending = s.linePending := rfl
@[simp] theorem respond_inputs (rc : ResultCode) (d : Data) (s : State) : (respond rc d s).inputs = s.inputs := rfl
@[simp] theorem respond_responses (rc : ResultCode) (d : Data) (s : State) :
    (respond rc d s).responses = s.responses ++ [responseWord rc d] := rfl

@[simp] theorem issueWord_cfg (w : Word) (s : State) : (issueWord w s).cfg = s.cfg := rfl
@[simp] theorem issueWord_crcAcc (w : Word) (s : State) : (issueWord w s).crcAcc = s.crcAcc := rfl
@[simp] theorem issueWord_rxState (w : Word) (s : State) : (issueWord w s).rxState = s.rxState := rfl
@[simp] theorem issueWord_rxEsc (w : Word) (s : State) : (issueWord w s).rxEsc = s.rxEsc := rfl
@[simp] theorem issueWord_rxHidx (w : Word) (s : State) : (issueWord w s).rxHidx = s.rxHidx := rfl
@[simp] theorem issueWord_rxFlags (w : Word) (s : State) : (issueWord w s).rxFlags = s.rxFlags := rfl
@[simp] theorem issueWord_rxDest (w : Word) (s : State) : (issueWord w s).rxDest = s.rxDest := rfl
@[simp] theorem issueWord_rxCmd (w : Word) (s : State) : (issueWord w s).rxCmd = s.rxCmd := rfl
@[simp] theorem issueWord_rxLen (w : Word) (s : State) : (issueWord w s).rxLen = s.rxLen := rfl
@[simp] theorem issueWord_rxBody (w : Word) (s : State) : (issueWord w s).rxBody = s.rxBody := rfl
@[simp] theorem issueWord_rxCrc (w : Word) (s : State) : (issueWord w s).rxCrc = s.rxCrc := rfl
@[simp] theorem issueWord_rxCidx (w : Word) (s : State) : (issueWord w s).rxCidx = s.rxCidx := rfl
@[simp] theorem issueWord_rxChi (w : Word) (s : State) : (issueWord w s).rxChi = s.rxChi := rfl
@[simp] theorem issueWord_rxValid (w : Word) (s : State) : (issueWord w s).rxValid = s.rxValid := rfl
@[simp] theorem issueWord_rxMsg (w : Word) (s : State) : (issueWord w s).rxMsg = s.rxMsg := rfl
@[simp] theorem issueWord_rxErr (w : Word) (s : State) : (issueWord w s).rxErr = s.rxErr := rfl
@[simp] theorem issueWord_txState (w : Word) (s : State) : (issueWord w s).txState = s.txState := rfl
@[simp] theorem issueWord_txFlags (w : Word) (s : State) : (issueWord w s).txFlags = s.txFlags := rfl
@[simp] theorem issueWord_txDest (w : Word) (s : State) : (issueWord w s).txDest = s.txDest := rfl
@[simp] theorem issueWord_txCmd (w : Word) (s : State) : (issueWord w s).txCmd = s.txCmd := rfl
@[simp] theorem issueWord_txBody (w : Word) (s : State) : (issueWord w s).txBody = s.txBody := rfl
@[simp] theorem issueWord_txFrame (w : Word) (s : State) : (issueWord w s).txFrame = s.txFrame := rfl
@[simp] theorem issueWord_txResp (w : Word) (s : State) : (issueWord w s).txResp = s.txResp := rfl
@[simp] theorem issueWord_txOut (w : Word) (s : State) : (issueWord w s).txOut = s.txOut := rfl
@[simp] theorem issueWord_lineState (w : Word) (s : State) : (issueWord w s).lineState = s.lineState := rfl
@[simp] theorem issueWord_linePending (w : Word) (s : State) : (issueWord w s).linePending = s.linePending := rfl
@[simp] theorem issueWord_inputs (w : Word) (s : State) : (issueWord w s).inputs = .command w :: s.inputs := rfl
@[simp] theorem issueWord_responses (w : Word) (s : State) : (issueWord w s).responses = s.responses := rfl

@[simp] theorem startFrame_cfg (s : State) : (startFrame s).cfg = s.cfg := rfl
@[simp] theorem startFrame_crcAcc (s : State) : (startFrame s).crcAcc = s.crcAcc := rfl
@[simp] theorem startFrame_rxState (s : State) : (startFrame s).rxState = .header := rfl
@[simp] theorem startFrame_rxEsc (s : State) : (startFrame s).rxEsc = false := rfl
@[simp] theorem startFrame_rxHidx (s : State) : (startFrame s).rxHidx = 0 := rfl
@[simp] theorem startFrame_rxFlags (s : State) : (startFrame s).rxFlags = 0 := rfl
@[simp] theorem startFrame_rxDest (s : State) : (startFrame s).rxDest = s.rxDest := rfl
@[simp] theorem startFrame_rxCmd (s : State) : (startFrame s).rxCmd = s.rxCmd := rfl
@[simp] theorem startFrame_rxLen (s : State) : (startFrame s).rxLen = s.rxLen := rfl
@[simp] theorem startFrame_rxBody (s : State) : (startFrame s).rxBody = [] := rfl
@[simp] theorem startFrame_rxCrc (s : State) : (startFrame s).rxCrc = crcInitial := rfl
@[simp] theorem startFrame_rxCidx (s : State) : (startFrame s).rxCidx = 0 := rfl
@[simp] theorem startFrame_rxChi (s : State) : (startFrame s).rxChi = s.rxChi := rfl
@[simp] theorem startFrame_rxValid (s : State) : (startFrame s).rxValid = s.rxValid := rfl
@[simp] theorem startFrame_rxMsg (s : State) : (startFrame s).rxMsg = s.rxMsg := rfl
@[simp] theorem startFrame_rxErr (s : State) : (startFrame s).rxErr = s.rxErr := rfl
@[simp] theorem startFrame_txState (s : State) : (startFrame s).txState = s.txState := rfl
@[simp] theorem startFrame_txFlags (s : State) : (startFrame s).txFlags = s.txFlags := rfl
@[simp] theorem startFrame_txDest (s : State) : (startFrame s).txDest = s.txDest := rfl
@[simp] theorem startFrame_txCmd (s : State) : (startFrame s).txCmd = s.txCmd := rfl
@[simp] theorem startFrame_txBody (s : State) : (startFrame s).txBody = s.txBody := rfl
@[simp] theorem startFrame_txFrame (s : State) : (startFrame s).txFrame = s.txFrame := rfl
@[simp] theorem startFrame_txResp (s : State) : (startFrame s).txResp = s.txResp := rfl
@[simp] theorem startFrame_txOut (s : State) : (startFrame s).txOut = s.txOut := rfl
@[simp] theorem startFrame_lineState (s : State) : (startFrame s).lineState = s.lineState := rfl
@[simp] theorem startFrame_linePending (s : State) : (startFrame s).linePending = s.linePending := rfl
@[simp] theorem startFrame_inputs (s : State) : (startFrame s).inputs = s.inputs := rfl
@[simp] theorem startFrame_responses (s : State) : (startFrame s).responses = s.responses := rfl

@[simp] theorem outsideFrame_cfg (b : Byte) (s : State) : (outsideFrame b s).cfg = s.cfg := rfl
@[simp] theorem outsideFrame_crcAcc (b : Byte) (s : State) : (outsideFrame b s).crcAcc = s.crcAcc := rfl
@[simp] theorem outsideFrame_rxState (b : Byte) (s : State) :
    (outsideFrame b s).rxState = if b = 0xFF then .waitSom2 else .waitSom1 := rfl
@[simp] theorem outsideFrame_rxEsc (b : Byte) (s : State) : (outsideFrame b s).rxEsc = s.rxEsc := rfl
@[simp] theorem outsideFrame_rxHidx (b : Byte) (s : State) : (outsideFrame b s).rxHidx = s.rxHidx := rfl
@[simp] theorem outsideFrame_rxFlags (b : Byte) (s : State) : (outsideFrame b s).rxFlags = s.rxFlags := rfl
@[simp] theorem outsideFrame_rxDest (b : Byte) (s : State) : (outsideFrame b s).rxDest = s.rxDest := rfl
@[simp] theorem outsideFrame_rxCmd (b : Byte) (s : State) : (outsideFrame b s).rxCmd = s.rxCmd := rfl
@[simp] theorem outsideFrame_rxLen (b : Byte) (s : State) : (outsideFrame b s).rxLen = s.rxLen := rfl
@[simp] theorem outsideFrame_rxBody (b : Byte) (s : State) : (outsideFrame b s).rxBody = s.rxBody := rfl
@[simp] theorem outsideFrame_rxCrc (b : Byte) (s : State) : (outsideFrame b s).rxCrc = s.rxCrc := rfl
@[simp] theorem outsideFrame_rxCidx (b : Byte) (s : State) : (outsideFrame b s).rxCidx = s.rxCidx := rfl
@[simp] theorem outsideFrame_rxChi (b : Byte) (s : State) : (outsideFrame b s).rxChi = s.rxChi := rfl
@[simp] theorem outsideFrame_rxValid (b : Byte) (s : State) : (outsideFrame b s).rxValid = s.rxValid := rfl
@[simp] theorem outsideFrame_rxMsg (b : Byte) (s : State) : (outsideFrame b s).rxMsg = s.rxMsg := rfl
@[simp] theorem outsideFrame_rxErr (b : Byte) (s : State) : (outsideFrame b s).rxErr = s.rxErr := rfl
@[simp] theorem outsideFrame_txState (b : Byte) (s : State) : (outsideFrame b s).txState = s.txState := rfl
@[simp] theorem outsideFrame_txFlags (b : Byte) (s : State) : (outsideFrame b s).txFlags = s.txFlags := rfl
@[simp] theorem outsideFrame_txDest (b : Byte) (s : State) : (outsideFrame b s).txDest = s.txDest := rfl
@[simp] theorem outsideFrame_txCmd (b : Byte) (s : State) : (outsideFrame b s).txCmd = s.txCmd := rfl
@[simp] theorem outsideFrame_txBody (b : Byte) (s : State) : (outsideFrame b s).txBody = s.txBody := rfl
@[simp] theorem outsideFrame_txFrame (b : Byte) (s : State) : (outsideFrame b s).txFrame = s.txFrame := rfl
@[simp] theorem outsideFrame_txResp (b : Byte) (s : State) : (outsideFrame b s).txResp = s.txResp := rfl
@[simp] theorem outsideFrame_txOut (b : Byte) (s : State) : (outsideFrame b s).txOut = s.txOut := rfl
@[simp] theorem outsideFrame_lineState (b : Byte) (s : State) : (outsideFrame b s).lineState = s.lineState := rfl
@[simp] theorem outsideFrame_linePending (b : Byte) (s : State) :
    (outsideFrame b s).linePending = s.linePending := rfl
@[simp] theorem outsideFrame_inputs (b : Byte) (s : State) : (outsideFrame b s).inputs = s.inputs := rfl
@[simp] theorem outsideFrame_responses (b : Byte) (s : State) : (outsideFrame b s).responses = s.responses := rfl

@[simp] theorem softReset_cfg (s : State) : (softReset s).cfg = s.cfg := rfl
@[simp] theorem softReset_crcAcc (s : State) : (softReset s).crcAcc = crcInitial := rfl
@[simp] theorem softReset_rxState (s : State) : (softReset s).rxState = .waitSom1 := rfl
@[simp] theorem softReset_rxEsc (s : State) : (softReset s).rxEsc = false := rfl
@[simp] theorem softReset_rxHidx (s : State) : (softReset s).rxHidx = 0 := rfl
@[simp] theorem softReset_rxFlags (s : State) : (softReset s).rxFlags = s.rxFlags := rfl
@[simp] theorem softReset_rxDest (s : State) : (softReset s).rxDest = s.rxDest := rfl
@[simp] theorem softReset_rxCmd (s : State) : (softReset s).rxCmd = s.rxCmd := rfl
@[simp] theorem softReset_rxLen (s : State) : (softReset s).rxLen = s.rxLen := rfl
@[simp] theorem softReset_rxBody (s : State) : (softReset s).rxBody = [] := rfl
@[simp] theorem softReset_rxCrc (s : State) : (softReset s).rxCrc = s.rxCrc := rfl
@[simp] theorem softReset_rxCidx (s : State) : (softReset s).rxCidx = 0 := rfl
@[simp] theorem softReset_rxChi (s : State) : (softReset s).rxChi = s.rxChi := rfl
@[simp] theorem softReset_rxValid (s : State) : (softReset s).rxValid = false := rfl
@[simp] theorem softReset_rxMsg (s : State) : (softReset s).rxMsg = s.rxMsg := rfl
@[simp] theorem softReset_rxErr (s : State) : (softReset s).rxErr = 0 := rfl
@[simp] theorem softReset_txState (s : State) :
    (softReset s).txState = if s.txState = .txSend ∨ s.txState = .txDiscard then .txDiscard else .txIdle := rfl
@[simp] theorem softReset_txFlags (s : State) : (softReset s).txFlags = s.txFlags := rfl
@[simp] theorem softReset_txDest (s : State) : (softReset s).txDest = s.txDest := rfl
@[simp] theorem softReset_txCmd (s : State) : (softReset s).txCmd = s.txCmd := rfl
@[simp] theorem softReset_txBody (s : State) : (softReset s).txBody = [] := rfl
@[simp] theorem softReset_txFrame (s : State) : (softReset s).txFrame = s.txFrame := rfl
@[simp] theorem softReset_txResp (s : State) : (softReset s).txResp = false := rfl
@[simp] theorem softReset_txOut (s : State) : (softReset s).txOut = s.txOut := rfl
@[simp] theorem softReset_lineState (s : State) : (softReset s).lineState = .disabled := rfl
@[simp] theorem softReset_linePending (s : State) :
    (softReset s).linePending = (s.linePending || s.lineState == .enabled) := rfl
@[simp] theorem softReset_inputs (s : State) : (softReset s).inputs = s.inputs := rfl
@[simp] theorem softReset_responses (s : State) : (softReset s).responses = s.responses := rfl

end Sys2Proof.Machine
end

