-- ==== Sys2Proof/Laws/Decoder.lean ====
section
/-! SUPPORT. What the decoder's operations can touch: every one of them leaves all fields but the decoder's own as
they were (40_frame_decoder.md R119, 41_frame_encoder.md R137). One frame lemma per operation, then the cases of one
received byte. -/

namespace Sys2Proof.Machine

/-- `t` differs from `s` in the decoder's own fields at most. -/
def DecoderFrame (s t : State) : Prop :=
  t = { s with
    rxState := t.rxState, rxEsc := t.rxEsc, rxHidx := t.rxHidx, rxFlags := t.rxFlags, rxDest := t.rxDest,
    rxCmd := t.rxCmd, rxLen := t.rxLen, rxBody := t.rxBody, rxCrc := t.rxCrc, rxCidx := t.rxCidx,
    rxChi := t.rxChi, rxValid := t.rxValid, rxMsg := t.rxMsg, rxErr := t.rxErr }

theorem DecoderFrame.refl (s : State) : DecoderFrame s s := rfl

theorem DecoderFrame.trans {s t u : State} (h : DecoderFrame s t) (h' : DecoderFrame t u) : DecoderFrame s u := by
  unfold DecoderFrame at *
  rw [h] at h'
  exact h'

/-- What the frame says, field by field. -/
theorem DecoderFrame.fields {s t : State} (h : DecoderFrame s t) :
    t.cfg = s.cfg ∧ t.crcAcc = s.crcAcc ∧ t.txState = s.txState ∧ t.txFlags = s.txFlags ∧ t.txDest = s.txDest ∧
    t.txCmd = s.txCmd ∧ t.txBody = s.txBody ∧ t.txFrame = s.txFrame ∧ t.txResp = s.txResp ∧ t.txOut = s.txOut ∧
    t.lineState = s.lineState ∧ t.linePending = s.linePending ∧ t.inputs = s.inputs ∧
    t.responses = s.responses := by
  rw [h]
  exact ⟨rfl, rfl, rfl, rfl, rfl, rfl, rfl, rfl, rfl, rfl, rfl, rfl, rfl, rfl⟩

theorem outsideFrame_frame (b : Byte) (s : State) : DecoderFrame s (outsideFrame b s) := rfl

theorem startFrame_frame (s : State) : DecoderFrame s (startFrame s) := rfl

theorem setFlag_frame (f : RxFlag) (s : State) : DecoderFrame s (setFlag f s) := rfl

theorem secondMarker_frame (b : Byte) (s : State) : DecoderFrame s (secondMarker b s) := by
  unfold secondMarker
  split <;> rfl

theorem inFrameMarker_frame (s : State) : DecoderFrame s (inFrameMarker s) := by
  unfold inFrameMarker
  split <;> rfl

theorem setHeaderField_frame (k : Nat) (v : Byte) (s : State) : DecoderFrame s (setHeaderField k v s) := by
  unfold setHeaderField
  split <;> rfl

theorem afterLength_frame (v : Byte) (s : State) : DecoderFrame s (afterLength v s) := by
  unfold afterLength
  split_ifs <;> rfl

theorem headerByte_frame (v : Byte) (s : State) : DecoderFrame s (headerByte v s) := by
  have h : ∀ k, DecoderFrame s
      (setHeaderField k v { s with rxCrc := crc16Step s.rxCrc v, rxHidx := s.rxHidx + 1 }) := fun k =>
    DecoderFrame.trans (t := { s with rxCrc := crc16Step s.rxCrc v, rxHidx := s.rxHidx + 1 }) rfl
      (setHeaderField_frame k v _)
  unfold headerByte
  simp only
  split_ifs
  · exact (h _).trans (afterLength_frame v _)
  · exact h _

theorem bodyByte_frame (v : Byte) (s : State) : DecoderFrame s (bodyByte v s) := by
  unfold bodyByte
  simp only
  split_ifs <;> rfl

theorem complete_frame (crc : Crc) (s : State) : DecoderFrame s (complete crc s) := by
  unfold complete
  split_ifs <;> rfl

theorem crcByte_frame (v : Byte) (s : State) : DecoderFrame s (crcByte v s) := by
  unfold crcByte
  split_ifs
  · rfl
  · exact complete_frame _ s
  · rfl

theorem logicalByte_frame (v : Byte) (s : State) : DecoderFrame s (logicalByte v s) := by
  unfold logicalByte
  split
  · exact headerByte_frame v s
  · exact bodyByte_frame v s
  · exact crcByte_frame v s
  all_goals rfl

theorem escaped_frame (b : Byte) (s : State) : DecoderFrame s (escaped b s) := by
  unfold escaped
  simp only
  split_ifs
  · exact DecoderFrame.trans (t := { s with rxEsc := false }) rfl (logicalByte_frame _ _)
  · exact DecoderFrame.trans (t := { s with rxEsc := false }) rfl (logicalByte_frame _ _)
  · rfl

theorem inFrame_frame (b : Byte) (s : State) : DecoderFrame s (inFrame b s) := by
  unfold inFrame
  split_ifs
  · exact inFrameMarker_frame s
  · exact escaped_frame b s
  · rfl
  · exact logicalByte_frame b s

/-- A received byte touches the decoder's fields at most. -/
theorem rxByte_frame (b : Byte) (s : State) : DecoderFrame s (rxByte b s) := by
  unfold rxByte
  split
  · exact outsideFrame_frame b s
  · exact outsideFrame_frame b s
  · exact outsideFrame_frame b s
  · exact secondMarker_frame b s
  all_goals exact inFrame_frame b s

/-- A receive timeout touches the decoder's fields at most. -/
theorem rxTimeout_frame (s : State) : DecoderFrame s (rxTimeout s) := by
  unfold rxTimeout
  simp only
  split <;> rfl

/-- The rule that a received byte runs (R100). -/
theorem rxByte_cases (b : Byte) (s : State) :
    ((s.rxState = .waitSom1 ∨ s.rxState = .ready ∨ s.rxState = .aborted) ∧ rxByte b s = outsideFrame b s) ∨
    (s.rxState = .waitSom2 ∧ rxByte b s = secondMarker b s) ∨
    ((s.rxState = .header ∨ s.rxState = .body ∨ s.rxState = .crc) ∧ rxByte b s = inFrame b s) := by
  cases h : s.rxState <;> simp [rxByte, h]

end Sys2Proof.Machine
end

