-- ==== Sys2Proof/Laws/Encoder.lean ====
section
/-! SUPPORT. What the operations of the encoder and of the line arbiter can do, said once each. -/

namespace Sys2Proof.Machine

/-- A finished frame is held while a line change is unconfirmed and goes out otherwise (41_frame_encoder.md R129). -/
theorem sendOrHold_cases (frame : List Byte) (s : State) :
    (s.linePending = true ∧ sendOrHold frame s = { s with txFrame := frame, txState := .txHold }) ∨
    (s.linePending = false ∧
      sendOrHold frame s = { s with txOut := s.txOut ++ frame, txState := .txSend }) := by
  by_cases h : s.linePending = true
  · exact .inl ⟨h, if_pos h⟩
  · exact .inr ⟨Bool.eq_false_iff.mpr h, if_neg h⟩

/-- A drain ends TX_SEND and TX_DISCARD and is ignored elsewhere (R132). -/
theorem txDrain_cases (s : State) :
    (s.txState = .txSend ∧ txDrain s = { s with txState := if s.txResp then .txWaitResp else .txIdle }) ∨
    (s.txState = .txDiscard ∧ txDrain s = { s with txState := .txIdle }) ∨
    (s.txState ≠ .txSend ∧ s.txState ≠ .txDiscard ∧ txDrain s = s) := by
  cases h : s.txState <;> simp [txDrain, h]

/-- A level request changes something only when it asks for the other level (43_line_arbiter.md R153, R154). -/
theorem requestLine_cases (v : LineState) (s : State) :
    (s.lineState = v ∧ requestLine v s = s) ∨
    (s.lineState ≠ v ∧ requestLine v s = { s with lineState := v, linePending := true }) := by
  unfold requestLine
  split
  · exact .inl ⟨‹_›, rfl⟩
  · exact .inr ⟨‹_›, rfl⟩

theorem frameOut_eq_true {s : State} :
    frameOut s = true ↔ s.txState = .txHold ∨ s.txState = .txSend ∨ s.txState = .txDiscard := by
  cases h : s.txState <;> simp [frameOut, h]

/-- A confirm of the requested level clears the pending bit and releases a held frame; any other is ignored (R155). -/
theorem lineConfirm_cases (v : LineState) (s : State) :
    (¬ (s.linePending = true ∧ v = s.lineState) ∧ lineConfirm v s = s) ∨
    (s.linePending = true ∧ v = s.lineState ∧ s.txState ≠ .txHold ∧
      lineConfirm v s = { s with linePending := false }) ∨
    (s.linePending = true ∧ v = s.lineState ∧ s.txState = .txHold ∧
      lineConfirm v s = { s with linePending := false, txOut := s.txOut ++ s.txFrame, txState := .txSend }) := by
  by_cases h : s.linePending = true ∧ v = s.lineState
  · by_cases hh : s.txState = .txHold
    · exact .inr (.inr ⟨h.1, h.2, hh, by simp only [lineConfirm, if_pos h, releaseHeld, hh, if_true]; rfl⟩)
    · exact .inr (.inl ⟨h.1, h.2, hh, by simp only [lineConfirm, if_pos h, releaseHeld, if_neg hh]⟩)
  · exact .inl ⟨h, by simp only [lineConfirm, if_neg h]⟩

end Sys2Proof.Machine
end

