-- ==== Sys2Proof/Laws/Encoding.lean ====
section
/-! SUPPORT. Lemmas about the command encoding: a word as its four fields, masks field by field, and the opcode map
read both ways. -/

namespace Sys2Proof

/-- A word as its four fields (30_encoding.md R74). -/
def word4 (p a b c : Byte) : Word := p ++ a ++ b ++ c

theorem commandWord_eq_word4 (o : Op) (a b c : Byte) : commandWord o a b c = word4 o.code a b c := rfl

@[simp] theorem opField_word4 (p a b c : Byte) : opField (word4 p a b c) = p := by
  apply BitVec.eq_of_getLsbD_eq
  intro i hi
  have h1 : ¬ (24 + i < 8) := by omega
  have h2 : ¬ (24 + i - 8 < 8) := by omega
  have h3 : ¬ (24 + i - 8 - 8 < 8) := by omega
  have h4 : 24 + i - 8 - 8 - 8 = i := by omega
  simp only [opField, word4, BitVec.getLsbD_extractLsb', BitVec.getLsbD_append, hi, h1, h2, h3, h4, decide_true,
    Bool.true_and, if_false]

@[simp] theorem aField_word4 (p a b c : Byte) : aField (word4 p a b c) = a := by
  apply BitVec.eq_of_getLsbD_eq
  intro i hi
  have h1 : ¬ (16 + i < 8) := by omega
  have h2 : ¬ (16 + i - 8 < 8) := by omega
  have h3 : 16 + i - 8 - 8 = i := by omega
  simp only [aField, word4, BitVec.getLsbD_extractLsb', BitVec.getLsbD_append, hi, h1, h2, h3, decide_true,
    Bool.true_and, if_false, if_true]

@[simp] theorem bField_word4 (p a b c : Byte) : bField (word4 p a b c) = b := by
  apply BitVec.eq_of_getLsbD_eq
  intro i hi
  have h1 : ¬ (8 + i < 8) := by omega
  have h2 : 8 + i - 8 = i := by omega
  simp only [bField, word4, BitVec.getLsbD_extractLsb', BitVec.getLsbD_append, hi, h1, h2, decide_true,
    Bool.true_and, if_false, if_true]

@[simp] theorem cField_word4 (p a b c : Byte) : cField (word4 p a b c) = c := by
  apply BitVec.eq_of_getLsbD_eq
  intro i hi
  simp only [cField, word4, BitVec.getLsbD_extractLsb', BitVec.getLsbD_append, hi, Nat.zero_add, decide_true,
    Bool.true_and, if_true]

theorem word4_inj {p a b c p' a' b' c' : Byte} :
    word4 p a b c = word4 p' a' b' c' ↔ p = p' ∧ a = a' ∧ b = b' ∧ c = c' := by
  constructor
  · intro h
    exact ⟨by simpa using congrArg opField h, by simpa using congrArg aField h, by simpa using congrArg bField h,
      by simpa using congrArg cField h⟩
  · rintro ⟨rfl, rfl, rfl, rfl⟩
    rfl

/-- Every word is the word of its fields. -/
theorem word4_fields (w : Word) : word4 (opField w) (aField w) (bField w) (cField w) = w := by
  apply BitVec.eq_of_getLsbD_eq
  intro i hi
  simp only [word4, opField, aField, bField, cField, BitVec.getLsbD_append, BitVec.getLsbD_extractLsb']
  have hd : i < 8 ∨ (8 ≤ i ∧ i < 16) ∨ (16 ≤ i ∧ i < 24) ∨ 24 ≤ i := by omega
  rcases hd with h | ⟨h, h'⟩ | ⟨h, h'⟩ | h
  · simp [h]
  · have h1 : ¬ i < 8 := by omega
    have h2 : i - 8 < 8 := by omega
    have h3 : 8 + (i - 8) = i := by omega
    simp [h1, h2, h3]
  · have h1 : ¬ i < 8 := by omega
    have h2 : ¬ i - 8 < 8 := by omega
    have h3 : i - 8 - 8 < 8 := by omega
    have h4 : 16 + (i - 8 - 8) = i := by omega
    simp only [h1, h2, h3, h4, decide_true, Bool.true_and, if_false, if_true]
  · have h1 : ¬ i < 8 := by omega
    have h2 : ¬ i - 8 < 8 := by omega
    have h3 : ¬ i - 8 - 8 < 8 := by omega
    have h4 : i - 8 - 8 - 8 < 8 := by omega
    have h5 : 24 + (i - 8 - 8 - 8) = i := by omega
    simp only [h1, h2, h3, h4, h5, decide_true, Bool.true_and, if_false]

/-- A mask acts field by field. -/
theorem word4_and (p a b c p' a' b' c' : Byte) :
    word4 p a b c &&& word4 p' a' b' c' = word4 (p &&& p') (a &&& a') (b &&& b') (c &&& c') := by
  have h3 : (p ++ a ++ b) &&& (p' ++ a' ++ b') = (p &&& p') ++ (a &&& a') ++ (b &&& b') := by
    rw [BitVec.and_append, BitVec.and_append]
  have h4 : (p ++ a ++ b ++ c) &&& (p' ++ a' ++ b' ++ c') =
      ((p ++ a ++ b) &&& (p' ++ a' ++ b')) ++ (c &&& c') := BitVec.and_append
  exact h4.trans (congrArg (· ++ (c &&& c')) h3)

@[simp] theorem byte_and_ones (b : Byte) : b &&& 255#8 = b := BitVec.and_allOnes

theorem ofCode_code (o : Op) : Op.ofCode o.code = some o := by cases o <;> decide

theorem code_of_ofCode {b : Byte} {o : Op} (h : Op.ofCode b = some o) : o.code = b := by
  have h' := List.find?_some h
  simpa only [beq_iff_eq] using h'

theorem code_inj {o o' : Op} (h : o.code = o'.code) : o = o' := by
  have := ofCode_code o
  rw [h, ofCode_code o'] at this
  exact (Option.some.inj this).symm

/-- What the decoder answers, by the row of the word's `OP` (R79). -/
theorem decode_word4 (cfg : Config) (o : Op) (a b c : Byte) :
    decode cfg (word4 o.code a b c) =
      if word4 o.code a b c &&& o.mustBeZero cfg = 0 then .ok (o.command (word4 o.code a b c))
      else .error (.mustBeZero o) := by
  simp only [decode, opField_word4, ofCode_code]

/-- A word decodes to a command exactly when its `OP` is a row's and that row's must-be-zero bits are zero. -/
theorem decode_eq_ok {cfg : Config} {w : Word} {i : Instr} :
    decode cfg w = .ok i ↔
      ∃ o : Op, opField w = o.code ∧ w &&& o.mustBeZero cfg = 0 ∧ i = o.command w := by
  constructor
  · intro h
    unfold decode at h
    split at h
    · cases h
    · rename_i o ho
      split at h
      · exact ⟨o, (code_of_ofCode ho).symm, ‹_›, (Except.ok.inj h).symm⟩
      · cases h
  · rintro ⟨o, ho, hz, rfl⟩
    simp only [decode, ho, ofCode_code, hz, if_true]

/-- The row of a command. -/
def Instr.op : Instr → Op
  | .nop => .nop | .crcInit => .crcInit | .crcUpdate _ => .crcUpdate | .crcRead => .crcRead
  | .txStart _ _ _ => .txStart | .txData _ => .txData | .txEnd => .txEnd | .txFill _ => .txFill
  | .txRespDone => .txRespDone | .rxHdr => .rxHdr | .rxLenCrc => .rxLenCrc | .rxBody _ => .rxBody
  | .rxPop => .rxPop | .lineEnable => .lineEnable | .lineDisable => .lineDisable | .status => .status
  | .clearFlags _ => .clearFlags | .softReset => .softReset

end Sys2Proof
end

