-- ==== Sys2Proof/Laws/Ops.lean ====
section
/-! SUPPORT. For each shared operation, what it does, said once: later proofs cite these lemmas and do not unfold
the operation. -/

namespace Sys2Proof.Machine

/-! ## CRC -/

theorem crc16_nil : crc16 [] = crcInitial := rfl

theorem crc16_append (xs ys : List Byte) : crc16 (xs ++ ys) = ys.foldl crc16Step (crc16 xs) := by
  simp only [crc16, List.foldl_append]

theorem crc16_snoc (xs : List Byte) (b : Byte) : crc16 (xs ++ [b]) = crc16Step (crc16 xs) b := crc16_append xs [b]

theorem crcShifts_add (m n : Nat) (x : Crc) : crcShifts (m + n) x = crcShifts n (crcShifts m x) := by
  induction m generalizing x with
  | zero => rw [Nat.zero_add]; rfl
  | succ m ih => rw [Nat.succ_add]; exact ih (crcShift x)

/-- The shift register is linear over XOR. -/
theorem crcShift_xor (x y : Crc) : crcShift (x ^^^ y) = crcShift x ^^^ crcShift y := by
  unfold crcShift
  rw [BitVec.getLsbD_xor, BitVec.ushiftRight_xor_distrib]
  cases x.getLsbD 0 <;> cases y.getLsbD 0 <;> simp only [Bool.xor_false, Bool.xor_true, Bool.not_false, Bool.not_true,
    if_true, Bool.false_eq_true, if_false]
  · rw [BitVec.xor_assoc]
  · rw [BitVec.xor_assoc, BitVec.xor_assoc, BitVec.xor_comm (y >>> 1)]
  · rw [BitVec.xor_assoc, BitVec.xor_comm (0xA001 : Crc) (y >>> 1 ^^^ 0xA001), BitVec.xor_assoc (y >>> 1),
      BitVec.xor_self, BitVec.xor_zero]

theorem crcShifts_xor (n : Nat) (x y : Crc) : crcShifts n (x ^^^ y) = crcShifts n x ^^^ crcShifts n y := by
  induction n generalizing x y with
  | zero => rfl
  | succ n ih => simp only [crcShifts, crcShift_xor, ih]

/-! ## Stuffing -/

@[simp] theorem stuff_nil : stuff [] = [] := rfl

@[simp] theorem stuff_cons (b : Byte) (xs : List Byte) : stuff (b :: xs) = stuff1 b ++ stuff xs := rfl

theorem stuff_append (xs ys : List Byte) : stuff (xs ++ ys) = stuff xs ++ stuff ys := List.flatMap_append

/-- The three wire forms of a logical byte (30_encoding.md R68). -/
theorem stuff1_cases (b : Byte) :
    (b = 0xFE ∧ stuff1 b = [0xFE, 0x00]) ∨ (b = 0xFF ∧ stuff1 b = [0xFE, 0x01]) ∨
      (b ≠ 0xFE ∧ b ≠ 0xFF ∧ stuff1 b = [b]) := by
  unfold stuff1
  by_cases h : b = 0xFE
  · exact .inl ⟨h, if_pos h⟩
  · by_cases h' : b = 0xFF
    · exact .inr (.inl ⟨h', by rw [if_neg h, if_pos h']⟩)
    · exact .inr (.inr ⟨h, h', by rw [if_neg h, if_neg h']⟩)

/-! ## Buffers and words -/

theorem bufRead_of_getElem? {buf : List Byte} {i : Nat} {b : Byte} (h : buf[i]? = some b) : bufRead buf i = b := by
  simp only [bufRead, h]

theorem bufAppend_length (buf : List Byte) (b : Byte) : (bufAppend buf b).length = buf.length + 1 :=
  List.length_append

/-- The two CRC bytes of a wire frame give the CRC back (20_memory.md R53, R54). -/
theorem joinCrc_crcHi_crcLo (c : Crc) : joinCrc (crcHi c) (crcLo c) = c := by
  apply BitVec.eq_of_getLsbD_eq
  intro i hi
  simp only [joinCrc, crcHi, crcLo, BitVec.getLsbD_append, BitVec.getLsbD_extractLsb']
  by_cases h : i < 8
  · simp only [h, if_true, decide_true, Bool.true_and, Nat.zero_add]
  · have h1 : i - 8 < 8 := by omega
    have h2 : 8 + (i - 8) = i := by omega
    simp only [h, h1, h2, if_false, decide_true, Bool.true_and]

theorem lengthByte_toNat {body : List Byte} (h : body.length ≤ 255) : (lengthByte body).toNat = body.length := by
  simp only [lengthByte, BitVec.toNat_ofNat]
  omega

/-! ## The end of a command and the next input -/

theorem ok_eq_next {d : Data} {s t : State} : ok d s = .next t ↔ t = respond .ok d s :=
  ⟨fun h => (Host.Outcome.next.inj h).symm, fun h => h ▸ rfl⟩

theorem reject_eq_next {rc : ResultCode} {s t : State} : reject rc s = .next t ↔ t = respond rc 0 s :=
  ⟨fun h => (Host.Outcome.next.inj h).symm, fun h => h ▸ rfl⟩

theorem takeInput_nil {s : State} (h : s.inputs = []) : takeInput s = none := by
  simp only [takeInput, h]

theorem takeInput_cons {s : State} {i : Input} {rest : List Input} (h : s.inputs = i :: rest) :
    takeInput s = some (i, { s with inputs := rest }) := by
  simp only [takeInput, h]

/-- The three kinds of step, said once. -/
theorem step_cases {s t : State} (h : step s = .next t) :
    (s.inputs = [] ∧ t = s) ∨
    (∃ w rest, s.inputs = .command w :: rest ∧ runWord w { s with inputs := rest } = .next t) ∨
    (∃ e rest, s.inputs = .event e :: rest ∧ t = applyEvent e { s with inputs := rest }) := by
  unfold step at h
  cases hi : s.inputs with
  | nil =>
    rw [takeInput_nil hi] at h
    exact .inl ⟨rfl, (Host.Outcome.next.inj h).symm⟩
  | cons i rest =>
    rw [takeInput_cons hi] at h
    cases i with
    | command w => exact .inr (.inl ⟨w, rest, rfl, h⟩)
    | event e => exact .inr (.inr ⟨e, rest, rfl, (Host.Outcome.next.inj h).symm⟩)

/-- A word either runs its command or is rejected. -/
theorem runWord_cases {w : Word} {s t : State} (h : runWord w s = .next t) :
    (∃ i, decode s.cfg w = .ok i ∧ exec i s = .next t) ∨
    (∃ e, decode s.cfg w = .error e ∧ t = respond .reserved 0 s) := by
  unfold runWord at h
  cases hd : decode s.cfg w with
  | ok i => rw [hd] at h; exact .inl ⟨i, rfl, h⟩
  | error e => rw [hd] at h; exact .inr ⟨e, rfl, reject_eq_next.mp h⟩

end Sys2Proof.Machine
end

