-- ==== Sys2Proof/Laws/PerInstr.lean ====
section
/-! SUPPORT. Statements about every command as syntax, one lemma per constructor. -/

namespace Sys2Proof.Laws

/-- The word of a command is of the row of spec/opcode_table.json that has its mnemonic, on every instance that has
the command. -/
def EncodedInItsRow.Statement (i : Instr) : Prop :=
  ∀ cfg : Config, i.wellFormed cfg = true →
    ∃ row ∈ opcodeTable cfg, row.mnemonic = i.mnemonic ∧ encode i &&& row.mask = row.pattern

/-- A word with one byte operand is of a row whose mask is the other three fields. -/
theorem byteOperand_and (o : Op) (b : Byte) :
    commandWord o 0 0 b &&& 0xFFFFFF00 = word4 o.code 0 0 0 := by
  rw [show (0xFFFFFF00 : Word) = word4 0xFF 0xFF 0xFF 0x00 from rfl, commandWord_eq_word4, word4_and]
  simp

theorem EncodedInItsRow.nop : EncodedInItsRow.Statement .nop :=
  fun _ _ => ⟨⟨"NOP", 0x00000000, 0xFFFFFFFF⟩, by simp [opcodeTable], rfl, by decide⟩

theorem EncodedInItsRow.crcInit : EncodedInItsRow.Statement .crcInit :=
  fun _ _ => ⟨⟨"CRC_INIT", 0x01000000, 0xFFFFFFFF⟩, by simp [opcodeTable], rfl, by decide⟩

theorem EncodedInItsRow.crcUpdate (byte : Byte) : EncodedInItsRow.Statement (.crcUpdate byte) :=
  fun _ _ => ⟨⟨"CRC_UPDATE", 0x02000000, 0xFFFFFF00⟩, by simp [opcodeTable], rfl, byteOperand_and .crcUpdate byte⟩

theorem EncodedInItsRow.crcRead : EncodedInItsRow.Statement .crcRead :=
  fun _ _ => ⟨⟨"CRC_READ", 0x03000000, 0xFFFFFFFF⟩, by simp [opcodeTable], rfl, by decide⟩

theorem EncodedInItsRow.txStart (flags dest cmd : Byte) : EncodedInItsRow.Statement (.txStart flags dest cmd) := by
  intro cfg h
  refine ⟨⟨"TX_START", 0x10000000, if cfg.flagsByte then 0xFF000000 else 0xFFFF0000⟩, by simp [opcodeTable], rfl, ?_⟩
  simp only [Instr.wellFormed, Bool.or_eq_true, beq_iff_eq] at h
  change word4 0x10 flags dest cmd &&& (if cfg.flagsByte then 0xFF000000 else 0xFFFF0000) = word4 0x10 0 0 0
  by_cases hf : cfg.flagsByte = true
  · rw [if_pos hf, show (0xFF000000 : Word) = word4 0xFF 0x00 0x00 0x00 from rfl, word4_and]
    simp
  · rw [if_neg hf, show (0xFFFF0000 : Word) = word4 0xFF 0xFF 0x00 0x00 from rfl, word4_and]
    simp [h.resolve_left hf]

theorem EncodedInItsRow.txData (byte : Byte) : EncodedInItsRow.Statement (.txData byte) :=
  fun _ _ => ⟨⟨"TX_DATA", 0x11000000, 0xFFFFFF00⟩, by simp [opcodeTable], rfl, byteOperand_and .txData byte⟩

theorem EncodedInItsRow.txEnd : EncodedInItsRow.Statement .txEnd :=
  fun _ _ => ⟨⟨"TX_END", 0x12000000, 0xFFFFFFFF⟩, by simp [opcodeTable], rfl, by decide⟩

theorem EncodedInItsRow.txFill (byte : Byte) : EncodedInItsRow.Statement (.txFill byte) :=
  fun _ _ => ⟨⟨"TX_FILL", 0x13000000, 0xFFFFFF00⟩, by simp [opcodeTable], rfl, byteOperand_and .txFill byte⟩

theorem EncodedInItsRow.txRespDone : EncodedInItsRow.Statement .txRespDone :=
  fun _ _ => ⟨⟨"TX_RESP_DONE", 0x14000000, 0xFFFFFFFF⟩, by simp [opcodeTable], rfl, by decide⟩

theorem EncodedInItsRow.rxHdr : EncodedInItsRow.Statement .rxHdr :=
  fun _ _ => ⟨⟨"RX_HDR", 0x20000000, 0xFFFFFFFF⟩, by simp [opcodeTable], rfl, by decide⟩

theorem EncodedInItsRow.rxLenCrc : EncodedInItsRow.Statement .rxLenCrc :=
  fun _ _ => ⟨⟨"RX_LEN_CRC", 0x21000000, 0xFFFFFFFF⟩, by simp [opcodeTable], rfl, by decide⟩

theorem EncodedInItsRow.rxBody (index : Byte) : EncodedInItsRow.Statement (.rxBody index) :=
  fun _ _ => ⟨⟨"RX_BODY", 0x22000000, 0xFFFFFF00⟩, by simp [opcodeTable], rfl, byteOperand_and .rxBody index⟩

theorem EncodedInItsRow.rxPop : EncodedInItsRow.Statement .rxPop :=
  fun _ _ => ⟨⟨"RX_POP", 0x23000000, 0xFFFFFFFF⟩, by simp [opcodeTable], rfl, by decide⟩

theorem EncodedInItsRow.lineEnable : EncodedInItsRow.Statement .lineEnable :=
  fun _ _ => ⟨⟨"LINE_ENABLE", 0x30000000, 0xFFFFFFFF⟩, by simp [opcodeTable], rfl, by decide⟩

theorem EncodedInItsRow.lineDisable : EncodedInItsRow.Statement .lineDisable :=
  fun _ _ => ⟨⟨"LINE_DISABLE", 0x31000000, 0xFFFFFFFF⟩, by simp [opcodeTable], rfl, by decide⟩

theorem EncodedInItsRow.status : EncodedInItsRow.Statement .status :=
  fun _ _ => ⟨⟨"STATUS", 0x40000000, 0xFFFFFFFF⟩, by simp [opcodeTable], rfl, by decide⟩

/-- A 6-bit mask leaves `C[7:6]` zero (30_encoding.md R75). -/
theorem mask_and : ∀ mask : BitVec 6, mask.setWidth 8 &&& (0xC0 : Byte) = 0 := by decide

theorem EncodedInItsRow.clearFlags (mask : BitVec 6) : EncodedInItsRow.Statement (.clearFlags mask) := by
  intro cfg _
  refine ⟨⟨"CLEAR_FLAGS", 0x41000000, 0xFFFFFFC0⟩, by simp [opcodeTable], rfl, ?_⟩
  have hm : mask.setWidth 8 &&& (0xC0 : Byte) = 0 := mask_and mask
  change word4 0x41 0 0 (mask.setWidth 8) &&& word4 0xFF 0xFF 0xFF 0xC0 = word4 0x41 0 0 0
  rw [word4_and, hm]
  rfl

theorem EncodedInItsRow.softReset : EncodedInItsRow.Statement .softReset :=
  fun _ _ => ⟨⟨"SOFT_RESET", 0xF0000000, 0xFFFFFFFF⟩, by simp [opcodeTable], rfl, by decide⟩

end Sys2Proof.Laws
end

