-- ==== Sys2Proof/Tests/Slice0.lean ====
section
/-! SUPPORT. The model's own tests: ill-formed terms that WellFormed refuses, every command's word written out from
30_encoding.md R78, single steps with the values of spec/95_test_vectors.md, and for every statement with hypotheses a
witness that meets them. -/

open Sys2Proof.Machine

namespace Sys2Proof.Tests

/-! ## WellFormed -/

/-- R79: the flags operand of TX_START exists only where `FLAGS_BYTE` is true. -/
theorem test_ill_formed_txStart :
    Instr.wellFormed ⟨false, 255⟩ (.txStart 0x01 0x02 0xA1) = false ∧
    Instr.wellFormed ⟨false, 255⟩ (.txStart 0x00 0x02 0xA1) = true ∧
    Instr.wellFormed ⟨true, 255⟩ (.txStart 0xFF 0x02 0xA1) = true := by decide

/-- R6: a zero timeout, a bit rate that is not one of the two, a settle time below 1 or above 5. -/
theorem test_ill_formed_timing :
    Timing.legal ⟨0, 250000, 1⟩ = false ∧ Timing.legal ⟨500, 9600, 1⟩ = false ∧
    Timing.legal ⟨500, 250000, 0⟩ = false ∧ Timing.legal ⟨500, 500000, 6⟩ = false ∧
    Timing.legal ⟨Timing.standardRxTimeoutMs, 500000, 5⟩ = true := by decide

/-! ## Decoding: every command's word, from the rows of R78 -/

theorem test_decode_control :
    decode Config.standard 0x00000000 = .ok .nop ∧
    decode Config.standard 0x40000000 = .ok .status ∧
    decode Config.standard 0x41000015 = .ok (.clearFlags 0b010101) ∧
    decode Config.standard 0xF0000000 = .ok .softReset := by decide

theorem test_decode_crc :
    decode Config.standard 0x01000000 = .ok .crcInit ∧
    decode Config.standard 0x02000081 = .ok (.crcUpdate 0x81) ∧
    decode Config.standard 0x03000000 = .ok .crcRead := by decide

theorem test_decode_encoder :
    decode Config.standard 0x108102A1 = .ok (.txStart 0x81 0x02 0xA1) ∧
    decode ⟨false, 255⟩ 0x100002A1 = .ok (.txStart 0x00 0x02 0xA1) ∧
    decode Config.standard 0x110000FE = .ok (.txData 0xFE) ∧
    decode Config.standard 0x12000000 = .ok .txEnd ∧
    decode Config.standard 0x13000081 = .ok (.txFill 0x81) ∧
    decode Config.standard 0x14000000 = .ok .txRespDone := by decide

theorem test_decode_decoder :
    decode Config.standard 0x20000000 = .ok .rxHdr ∧
    decode Config.standard 0x21000000 = .ok .rxLenCrc ∧
    decode Config.standard 0x220000FF = .ok (.rxBody 0xFF) ∧
    decode Config.standard 0x23000000 = .ok .rxPop := by decide

theorem test_decode_line :
    decode Config.standard 0x30000000 = .ok .lineEnable ∧
    decode Config.standard 0x31000000 = .ok .lineDisable := by decide

/-- The reserved words of spec/95_test_vectors.md 2.6 and 2.3. -/
theorem test_decode_reserved :
    decode Config.standard 0x00000001 = .error (.mustBeZero .nop) ∧
    decode Config.standard 0x04000000 = .error (.unknownOp 0x04) ∧
    decode Config.standard 0xFF000000 = .error (.unknownOp 0xFF) ∧
    decode Config.standard 0x02010000 = .error (.mustBeZero .crcUpdate) ∧
    decode Config.standard 0x03000001 = .error (.mustBeZero .crcRead) ∧
    decode Config.standard 0x410000C0 = .error (.mustBeZero .clearFlags) ∧
    decode Config.standard 0x41000040 = .error (.mustBeZero .clearFlags) ∧
    decode Config.standard 0xF0000001 = .error (.mustBeZero .softReset) ∧
    decode Config.standard 0x40000100 = .error (.mustBeZero .status) ∧
    decode Config.standard 0x12000001 = .error (.mustBeZero .txEnd) ∧
    decode ⟨false, 255⟩ 0x100102A1 = .error (.mustBeZero .txStart) := by decide

theorem test_decodeTableWord :
    decodeTableWord 32 0x220000FF = some (.rxBody 0xFF) ∧ decodeTableWord 32 0x22010000 = none ∧
    decodeTableWord 8 0x1FF = none ∧ decodeTableWord 40 0 = none := by decide

/-! ## Small states -/

/-- Power-on with the default parameters. -/
def idle : State := State.powerOn Config.standard

/-- Power-on of an instance without the flags byte and with `MAX_BODY = 2`. -/
def small : State := State.powerOn ⟨false, 2⟩

/-- The encoder in a given state, the message of §8 in its registers (spec/95_test_vectors.md E1). -/
def encoder (x : TxState) : State :=
  { idle with txState := x, txFlags := 0x00, txDest := 0x02, txCmd := 0xA1, txBody := [0x12, 0x34, 0x56] }

/-- The message of §8 in the message register (spec/95_test_vectors.md D1). -/
def received : State :=
  { idle with rxState := .ready, rxValid := true, rxMsg := ⟨0x00, 0x02, 0xA1, 3, [0x12, 0x34, 0x56], 0x8491⟩ }

/-- The decoder in a given state, the header of §8 in its registers. -/
def decoder (x : RxState) : State :=
  { idle with
    rxState := x, rxHidx := 4, rxDest := 0x02, rxCmd := 0xA1, rxLen := 3, rxBody := [0x12, 0x34, 0x56]
    rxCrc := 0x8491, rxChi := 0x84 }

/-- The line at a requested level that is not confirmed yet. -/
def pending (v : LineState) (s : State) : State := { s with lineState := v, linePending := true }

/-- The state that a step gives. -/
def next? : Host.Outcome State Fault Refusal → Option State
  | .next s => some s
  | .fault _ => none
  | .refused _ => none

/-- The response word to a command word issued in a state. -/
def answer (w : Word) (s : State) : Option Word :=
  (next? (step (issueWord w s))).bind fun t => t.responses.getLast?

/-- The wire bytes that one input hands to the transport. -/
def sent (i : Input) (s : State) : Option (List Byte) :=
  (next? (step { s with inputs := [i] })).map fun t => t.txOut.drop s.txOut.length

/-- The state after one input, seen through STATUS. -/
def statusAfter (i : Input) (s : State) : Option Data :=
  (next? (step { s with inputs := [i] })).map statusData

/-! ## One step each; the expected values are those of spec/95_test_vectors.md, in the vector named -/

set_option maxRecDepth 8192

/-- The table of 2.1. -/
theorem test_crc16Step :
    crc16Step 0x0000 0x00 = 0x0000 ∧ crc16Step 0x0000 0x01 = 0xC0C1 ∧ crc16Step 0x0000 0x80 = 0xA001 ∧
    crc16Step 0x1234 0x56 = 0xE993 ∧ crc16Step 0xFFFF 0x00 = 0x40BF ∧ crc16Step 0xFFFF 0xFF = 0x00FF := by decide

/-- 2.1: E2, E1 and E8. -/
theorem test_crc16 :
    crc16 [] = 0xFFFF ∧ crc16 [0x00, 0x02, 0xA1, 0x03, 0x12, 0x34, 0x56] = 0x8491 ∧
    crc16 [0x31, 0x32, 0x33, 0x34, 0x35, 0x36, 0x37, 0x38, 0x39] = 0x4B37 := by decide

/-- C1. -/
theorem test_crc_commands :
    answer 0x03000000 idle = some 0x0000FFFF ∧ answer 0x02000012 idle = some 0x00004D3F ∧
    answer 0x01000000 { idle with crcAcc := 0x3B47 } = some 0x00000000 ∧
    answer 0x020000FE { idle with crcAcc := 0x00FF } = some 0x0000C0C1 := by decide

/-- T1, T3: TX_START and TX_DATA. -/
theorem test_txStart_txData :
    answer 0x100002A1 idle = some 0x00000000 ∧ answer 0x100000FB (encoder .txSend) = some 0x01000000 ∧
    answer 0x11000099 (encoder .txOpen) = some 0x00000004 ∧ answer 0x11000001 idle = some 0x01000000 ∧
    answer 0x11000003 { small with txState := .txOpen, txBody := [1, 2] } = some 0x03000000 := by decide

/-- E1. -/
theorem test_txEnd :
    answer 0x12000000 (encoder .txOpen) = some 0x00038491 ∧
    sent (.command 0x12000000) (encoder .txOpen) =
      some [0xFF, 0xFF, 0x00, 0x02, 0xA1, 0x03, 0x12, 0x34, 0x56, 0x84, 0x91] := by decide

/-- T2: stuffing; L2: a held frame. -/
theorem test_txEnd_stuffed_and_held :
    sent (.command 0x12000000) { encoder .txOpen with txFlags := 1, txDest := 0, txBody := [0xFF, 0x00, 0xFE] } =
      some [0xFF, 0xFF, 0x01, 0x00, 0xA1, 0x03, 0xFE, 0x01, 0x00, 0xFE, 0x00, 0xED, 0x07] ∧
    sent (.command 0x12000000) (pending .disabled (encoder .txOpen)) = some [] ∧
    statusAfter (.command 0x12000000) (pending .disabled (encoder .txOpen)) = some 0x000220 := by decide

/-- T4, L3. -/
theorem test_txFill_txRespDone :
    sent (.command 0x130000FF) (encoder .txWaitResp) = some [0xFE, 0x01] ∧
    answer 0x13000000 (pending .enabled (encoder .txWaitResp)) = some 0x01000000 ∧
    statusAfter (.command 0x14000000) (encoder .txWaitResp) = some 0x000000 ∧
    answer 0x14000000 (encoder .txSend) = some 0x01000000 := by decide

/-- D1, D16. -/
theorem test_rx_reads :
    answer 0x20000000 received = some 0x000002A1 ∧ answer 0x21000000 received = some 0x00038491 ∧
    answer 0x22000002 received = some 0x00000056 ∧ answer 0x22000003 received = some 0x04000000 ∧
    answer 0x22000000 idle = some 0x05000000 ∧ answer 0x20000000 idle = some 0x05000000 ∧
    answer 0x21000000 idle = some 0x05000000 := by decide

/-- D1: RX_POP. -/
theorem test_rxPop :
    answer 0x23000000 received = some 0x00000000 ∧ answer 0x23000000 idle = some 0x05000000 ∧
    statusAfter (.command 0x23000000) received = some 0x000005 := by decide

/-- L1, L2. -/
theorem test_line_commands :
    statusAfter (.command 0x30000000) idle = some 0x000300 ∧
    statusAfter (.command 0x30000000) { idle with lineState := .enabled } = some 0x000100 ∧
    statusAfter (.command 0x31000000) { idle with lineState := .enabled } = some 0x000200 ∧
    answer 0x30000000 (encoder .txHold) = some 0x01000000 := by decide

/-- K2, and D7's flag and state in STATUS. -/
theorem test_status_clearFlags :
    answer 0x40000000 { idle with rxErr := 0b000001, rxState := .aborted } = some 0x00010006 ∧
    answer 0x41000001 { idle with rxErr := 0b010001 } = some 0x00000011 ∧
    statusAfter (.command 0x41000001) { idle with rxErr := 0b010001 } = some 0x100000 := by decide

/-- K3, and R167 (b): a frame in the transport still drains. -/
theorem test_softReset :
    statusAfter (.command 0xF0000000) { encoder .txOpen with lineState := .enabled } = some 0x000200 ∧
    statusAfter (.command 0xF0000000) (encoder .txSend) = some 0x000050 ∧
    answer 0x00000000 idle = some 0x00000000 ∧ answer 0xF0000001 (encoder .txOpen) = some 0x02000000 := by decide

/-- D1 and D7: the last byte of a frame, its CRC right and wrong; D11: right, the register occupied. -/
theorem test_last_byte :
    statusAfter (.event (.rxByte 0x91)) { decoder .crc with rxCidx := 1 } = some 0x00000D ∧
    statusAfter (.event (.rxByte 0x92)) { decoder .crc with rxCidx := 1 } = some 0x010006 ∧
    statusAfter (.event (.rxByte 0x91)) { decoder .crc with rxCidx := 1, rxValid := true } = some 0x20000D := by decide

/-- D5, D6, D8, D9: a marker in the body, a marker run, a length over the limit, the escapes. -/
theorem test_bytes_in_a_frame :
    statusAfter (.event (.rxByte 0xFF)) (decoder .body) = some 0x080001 ∧
    statusAfter (.event (.rxByte 0xFF)) { decoder .header with rxHidx := 0 } = some 0x000002 ∧
    statusAfter (.event (.rxByte 0x03)) { small with rxState := .header, rxHidx := 2 } = some 0x020006 ∧
    statusAfter (.event (.rxByte 0x02)) { decoder .body with rxEsc := true } = some 0x040006 ∧
    statusAfter (.event (.rxByte 0xFF)) { decoder .body with rxEsc := true } = some 0x080001 := by decide

/-- D10; E1 and T4: TX_DRAIN without and with a response phase; L1, L2: LINE_CONFIRM. -/
theorem test_events :
    statusAfter (.event .rxTimeout) (decoder .header) = some 0x100000 ∧
    statusAfter (.event .rxTimeout) { idle with rxState := .waitSom2 } = some 0x000000 ∧
    statusAfter (.event .txDrain) (encoder .txSend) = some 0x000000 ∧
    statusAfter (.event .txDrain) { encoder .txSend with txResp := true } = some 0x000040 ∧
    statusAfter (.event (.lineConfirm .disabled)) (pending .enabled idle) = some 0x000300 ∧
    sent (.event (.lineConfirm .disabled)) { pending .disabled (encoder .txHold) with txFrame := [0xFF, 0xFF] } =
      some [0xFF, 0xFF] := by decide

/-- 30_encoding.md R83: the syntax on both revisions. -/
theorem test_assemblerText :
    assemblerText Config.standard (.txStart 0x00 0x02 0xA1) = "TX_START 0x00, 0x02, 0xA1" ∧
    assemblerText ⟨false, 255⟩ (.txStart 0x00 0x02 0xA1) = "TX_START 0x02, 0xA1" ∧
    assemblerText Config.standard .nop = "NOP" := by decide

/-- R85: RECV pops after as many reads as the length says. -/
theorem test_pseudo_commands :
    recvCommands 2 = [.rxHdr, .rxLenCrc, .rxBody 0, .rxBody 1, .rxPop] ∧
    sendCommands 0x01 0x00 0xA1 [0x10] = [.txStart 0x01 0x00 0xA1, .txData 0x10, .txEnd] ∧
    crcBlock [0x12] = [.crcInit, .crcUpdate 0x12, .crcRead] := by decide

/-- An instruction placed by `withFetchWord` is the next to run, from reset. -/
theorem test_withFetchWord :
    (next? (step (State.reset.withFetchWord 32 0x30000000))).map statusData = some 0x000300 := by decide

/-! ## Witnesses: for each statement with hypotheses, concrete states and operands that meet them, clause by clause -/

/-- A state whose next agents' steps are `is`. -/
def next (is : List Input) (s : State) : State := { s with inputs := is }

theorem witness_DecodeOfEncodeIsTheCommand :
    Instr.wellFormed ⟨true, 255⟩ (.txStart 0xFF 0xFF 0xFF) = true ∧
    Instr.wellFormed ⟨false, 0⟩ (.txStart 0x00 0xFF 0xFF) = true ∧
    Instr.wellFormed ⟨false, 0⟩ (.clearFlags 0x3F) = true ∧ Instr.wellFormed ⟨true, 255⟩ (.rxBody 0xFF) = true := by
  decide

theorem witness_EncodeOfDecodeIsTheWord :
    decode ⟨true, 255⟩ 0x10FFFFFF = .ok (.txStart 0xFF 0xFF 0xFF) ∧
    decode ⟨false, 0⟩ 0x4100003F = .ok (.clearFlags 0x3F) := by decide

theorem witness_DecodeFollowsTheOpcodeTable :
    (⟨"TX_START", 0x10000000, 0xFFFF0000⟩ : OpcodeRow) ∈ opcodeTable ⟨false, 255⟩ ∧
    (⟨"SOFT_RESET", 0xF0000000, 0xFFFFFFFF⟩ : OpcodeRow) ∈ opcodeTable ⟨true, 255⟩ := by decide

theorem witness_StepRunsTheDecodedCommand :
    (next [.command 0x220000FF, .event .txDrain] received).inputs = .command 0x220000FF :: [.event .txDrain] ∧
    decode received.cfg 0x220000FF = .ok (.rxBody 0xFF) := by decide

theorem witness_StepRejectsReservedWords :
    (next [.command 0x41000040] idle).inputs = [.command 0x41000040] ∧
    (∀ row ∈ opcodeTable idle.cfg, (0x41000040 : Word) &&& row.mask ≠ row.pattern) ∧
    (∀ row ∈ opcodeTable idle.cfg, (0x04000000 : Word) &&& row.mask ≠ row.pattern) ∧
    (∀ row ∈ opcodeTable small.cfg, (0x10010000 : Word) &&& row.mask ≠ row.pattern) := by decide

theorem witness_StepRunsTheEvent :
    (next [.event .rxTimeout] received).inputs = [.event .rxTimeout] ∧ received.inputs = [] := by decide

theorem witness_EveryInputIsAnswered :
    (next [.command 0x00000000] idle).inputs = [.command 0x00000000] ∧
    (next [.event .txDrain] idle).inputs = [.event .txDrain] := by decide

theorem witness_PowerOnValues : State.reset = State.reset ∧ ∃ cfg : Config, small = State.powerOn cfg := ⟨rfl, _, rfl⟩

/-- A good state: a frame held for the line, a body byte still to come, a message received. -/
def busy : State :=
  { pending .enabled (encoder .txHold) with
    txFrame := [0xFF, 0xFF, 0x00, 0x02, 0xA1, 0x03, 0x12, 0x34, 0x56, 0x84, 0x91]
    rxState := .body, rxHidx := 4, rxDest := 0x02, rxCmd := 0xA1, rxLen := 3, rxBody := [0x12, 0x34]
    rxCrc := crc16 [0x00, 0x02, 0xA1, 0x03, 0x12, 0x34]
    rxValid := true, rxMsg := received.rxMsg }

theorem received_msg_good : received.rxMsg.good idle.cfg := ⟨by decide, by decide, by decide, by decide⟩

theorem busy_decoderInv : DecoderInv busy where
  hidx_le := by decide
  cidx_le := by decide
  esc_inFrame := by decide
  body_le := by decide
  flags_zero := by decide
  crc_running := by decide
  in_header := by decide
  in_body := by decide
  in_crc := by decide
  msg_good := fun _ => received_msg_good

theorem busy_encoderInv : EncoderInv busy where
  body_le := by decide
  flags_zero := by decide
  hold_pending := by decide
  hold_frame := by decide
  resp_flag := by decide

/-- `busy` keeps the invariant with inputs to come: no field of the invariant is an input. -/
theorem busy_inv (is : List Input) : (next is busy).Inv :=
  ⟨⟨busy_decoderInv.hidx_le, busy_decoderInv.cidx_le, busy_decoderInv.esc_inFrame, busy_decoderInv.body_le,
      busy_decoderInv.flags_zero, busy_decoderInv.crc_running, busy_decoderInv.in_header, busy_decoderInv.in_body,
      busy_decoderInv.in_crc, busy_decoderInv.msg_good⟩,
    ⟨busy_encoderInv.body_le, busy_encoderInv.flags_zero, busy_encoderInv.hold_pending, busy_encoderInv.hold_frame,
      busy_encoderInv.resp_flag⟩⟩

/-- The last body byte of a frame arrives in a good state. -/
theorem witness_EveryStepKeepsTheInvariant :
    (next [.event (.rxByte 0x56)] busy).Inv ∧ ∃ t, step (next [.event (.rxByte 0x56)] busy) = .next t ∧
      t.rxState = .crc :=
  ⟨busy_inv _, _, rfl, by decide⟩

/-- A held frame after LINE_ENABLE, TX_START and TX_END. -/
theorem witness_RunsFromPowerOnStayGood_hold :
    ∃ t, Host.Core.run Sys2Proof.core 3
        (next [.command 0x30000000, .command 0x100000FA, .command 0x12000000] (State.powerOn Config.standard)) =
      .next t ∧ t.txState = .txHold :=
  ⟨_, rfl, by decide⟩

/-- A received message: the shortest frame, of an instance without the flags byte (its CRC by R145). -/
theorem witness_RunsFromPowerOnStayGood_valid :
    ∃ t, Host.Core.run Sys2Proof.core 7
        (next (rxInputs (wireFrame [0x01, 0x02, 0x00])) (State.powerOn ⟨false, 0⟩)) = .next t ∧ t.rxValid = true :=
  ⟨_, rfl, by decide⟩

theorem witness_ParametersFixedAndOutputsOnlyGrow :
    ∃ t, step (next [.event (.lineConfirm .enabled)] busy) = .next t ∧ t.txOut ≠ busy.txOut :=
  ⟨_, rfl, by decide⟩

theorem witness_CrcBlockFoldsTheBytes :
    (next [.command 0x01000000, .command 0x03000000] idle).inputs = commandInputs (crcBlock []) ++ [] ∧
    (next [.command 0x01000000, .command 0x020000FF, .command 0x03000000, .event .txDrain] idle).inputs =
      commandInputs (crcBlock [0xFF]) ++ [.event .txDrain] := by decide

theorem witness_TxStartFollowsItsRule :
    (small.cfg.flagsByte = false ∧ (0x01 : Byte) ≠ 0) ∧
    ((small.cfg.flagsByte = true ∨ (0x00 : Byte) = 0) ∧ small.txState = .txIdle) ∧
    ((idle.cfg.flagsByte = true ∨ (0xFF : Byte) = 0) ∧ idle.txState = .txIdle) ∧
    (idle.cfg.flagsByte = true ∨ (0xFF : Byte) = 0) ∧ (encoder .txDiscard).txState ≠ .txIdle := by decide

theorem witness_TxDataFollowsItsRule :
    idle.txState ≠ .txOpen ∧
    ((encoder .txOpen).txState = .txOpen ∧ (encoder .txOpen).txBody.length ≠ (encoder .txOpen).cfg.maxBody.val) ∧
    (∀ s : State, s = { small with txState := .txOpen, txBody := [1, 2] } →
      s.txState = .txOpen ∧ s.txBody.length = s.cfg.maxBody.val) ∧
    (∀ s : State, s = { small with txState := .txOpen, txBody := [1] } →
      s.txState = .txOpen ∧ s.txBody.length ≠ s.cfg.maxBody.val) :=
  ⟨by decide, by decide, by rintro _ rfl; decide, by rintro _ rfl; decide⟩

theorem witness_TxEndFollowsItsRule :
    (encoder .txHold).txState ≠ .txOpen ∧
    ((encoder .txOpen).txState = .txOpen ∧ (encoder .txOpen).linePending = false) ∧
    (pending .disabled (encoder .txOpen)).txState = .txOpen ∧
    (pending .disabled (encoder .txOpen)).linePending = true := by decide

theorem witness_TxFillFollowsItsRule :
    ((encoder .txSend).txState ≠ .txWaitResp ∨ (encoder .txSend).linePending = true) ∧
    ((pending .enabled (encoder .txWaitResp)).txState ≠ .txWaitResp ∨
      (pending .enabled (encoder .txWaitResp)).linePending = true) ∧
    (encoder .txWaitResp).txState = .txWaitResp ∧ (encoder .txWaitResp).linePending = false := by decide

theorem witness_TxRespDoneFollowsItsRule :
    (encoder .txSend).txState ≠ .txWaitResp ∧ (encoder .txWaitResp).txState = .txWaitResp := by decide

theorem witness_TxDrainFollowsItsRule :
    (encoder .txSend).txState = .txSend ∧ (encoder .txDiscard).txState = .txDiscard ∧
    (encoder .txHold).txState ≠ .txSend ∧ (encoder .txHold).txState ≠ .txDiscard := by decide

/-- One move of each kind. -/
theorem witness_EncoderMovesOnlyAsRuled :
    (∃ t, step (next [.command 0xF0000000] (encoder .txSend)) = .next t ∧ t.txState = .txDiscard) ∧
    (∃ t, step (next [.command 0x10FFFFFF] idle) = .next t ∧ t.txState = .txOpen) ∧
    (∃ t, step (next [.command 0x12000000] (encoder .txOpen)) = .next t ∧ t.txState = .txSend) ∧
    (∃ t, step (next [.event (.lineConfirm .enabled)] busy) = .next t ∧ t.txState = .txSend) ∧
    (∃ t, step (next [.event .txDrain] (encoder .txDiscard)) = .next t ∧ t.txState = .txIdle) ∧
    (∃ t, step (next [.command 0x14000000] (encoder .txWaitResp)) = .next t ∧ t.txState = .txIdle) :=
  ⟨⟨_, rfl, by decide⟩, ⟨_, rfl, by decide⟩, ⟨_, rfl, by decide⟩, ⟨_, rfl, by decide⟩, ⟨_, rfl, by decide⟩,
    ⟨_, rfl, by decide⟩⟩

theorem witness_FrameInTransportEndsOnlyByDrain :
    ((encoder .txSend).txState = .txSend ∨ (encoder .txSend).txState = .txDiscard) ∧
    ∃ t, Host.Core.run Sys2Proof.core 2 (next [.command 0xF0000000, .event .txDrain] (encoder .txSend)) = .next t ∧
      t.txState ≠ .txSend ∧ t.txState ≠ .txDiscard :=
  ⟨by decide, _, rfl, by decide⟩

theorem witness_StuffedBytesHoldNoMarker :
    (stuff [0x00, 0xFE])[1]? = some 0xFE ∧ (stuff [0xFF])[0]? = some 0xFE := by decide

theorem witness_StuffingLosesNothing : stuff [0xFE, 0x00] = stuff [0xFE, 0x00] := rfl

theorem witness_WireFrameLengthBounds :
    (List.replicate 255 (0xFF : Byte)).length ≤ 255 ∧ ([] : List Byte).length ≤ 255 := by simp

/-- The register occupied and a frame in progress; the register free; in both a frame of §8 to come. -/
theorem witness_FrameIsReceivedFromAnyGoodState :
    ∀ is : List Input, is = rxInputs (wireFrame (received.rxMsg.logical idle.cfg)) ++ [] →
      (DecoderInv (next is busy) ∧ received.rxMsg.good busy.cfg ∧ (next is busy).rxValid = true ∧
        (next is busy).rxState.inFrame = true ∧
        ¬ ((next is busy).rxState = .header ∧ (next is busy).rxHidx = 0 ∧ (next is busy).rxEsc = false)) ∧
      DecoderInv (next is { busy with rxValid := false }) ∧ (next is { busy with rxValid := false }).rxValid = false := by
  intro is _
  have h := (busy_inv is).decoder
  exact ⟨⟨h, received_msg_good, rfl, rfl, fun h0 => by cases h0.1⟩,
    ⟨h.hidx_le, h.cidx_le, h.esc_inFrame, h.body_le, h.flags_zero, h.crc_running, h.in_header, h.in_body, h.in_crc,
      fun h0 => by cases h0⟩, rfl⟩

theorem witness_SendThenReceiveRoundTrip :
    ∀ s : State, s = next (commandInputs (sendCommands 0xFF 0xFE 0x00 [0xFE, 0xFF])) idle →
      s.txState = .txIdle ∧ s.linePending = false ∧ (s.cfg.flagsByte = true ∨ (0xFF : Byte) = 0) ∧
      ([0xFE, 0xFF] : List Byte).length ≤ s.cfg.maxBody.val ∧
      s.inputs = commandInputs (sendCommands 0xFF 0xFE 0x00 [0xFE, 0xFF]) ∧
      { busy with rxValid := false }.cfg = s.cfg ∧ DecoderInv { busy with rxValid := false } ∧
      { busy with rxValid := false }.rxValid = false := by
  rintro _ rfl
  have h := busy_decoderInv
  exact ⟨by decide, by decide, by decide, by decide, rfl, rfl,
    ⟨h.hidx_le, h.cidx_le, h.esc_inFrame, h.body_le, h.flags_zero, h.crc_running, h.in_header, h.in_body, h.in_crc,
      fun h0 => by cases h0⟩, rfl⟩

theorem witness_MarkerBytesFollowTheirRules :
    idle.rxState = .waitSom1 ∧ (decoder .ready).rxState = .ready ∧ (decoder .aborted).rxState = .aborted ∧
    (decoder .waitSom2).rxState = .waitSom2 ∧ (0xFE : Byte) ≠ 0xFF ∧ (0xFF : Byte) = 0xFF := by decide

theorem witness_MarkerInsideFrameRearms :
    (∀ s : State, s = { decoder .header with rxHidx := 0 } →
      s.rxState.inFrame = true ∧ s.rxState = .header ∧ s.rxHidx = 0 ∧ s.rxEsc = false) ∧
    (∀ s : State, s = { decoder .header with rxHidx := 1 } →
      s.rxState.inFrame = true ∧ ¬ (s.rxState = .header ∧ s.rxHidx = 0 ∧ s.rxEsc = false)) ∧
    (∀ s : State, s = { decoder .crc with rxEsc := true } →
      s.rxState.inFrame = true ∧ ¬ (s.rxState = .header ∧ s.rxHidx = 0 ∧ s.rxEsc = false)) :=
  ⟨by rintro _ rfl; decide, by rintro _ rfl; decide, by rintro _ rfl; decide⟩

theorem witness_EscapedBytesFollowTheirRules :
    ((decoder .body).rxState.inFrame = true ∧ (decoder .body).rxEsc = false ∧ (0xFE : Byte) ≠ 0xFF ∧
      (0xFD : Byte) ≠ 0xFF ∧ (0xFD : Byte) ≠ 0xFE) ∧
    (∀ s : State, s = { decoder .header with rxEsc := true } → s.rxState.inFrame = true ∧ s.rxEsc = true) ∧
    (0x00 : Byte) ≠ 0xFF ∧ (0x01 : Byte) ≠ 0xFF ∧ (0x02 : Byte) ≠ 0xFF ∧ (0x02 : Byte) ≠ 0x00 ∧
    (0x02 : Byte) ≠ 0x01 :=
  ⟨by decide, by rintro _ rfl; decide, by decide, by decide, by decide, by decide, by decide⟩

/-- Each header field, and the length at zero, at `MAX_BODY` and just above it. -/
theorem witness_HeaderBytesFollowTheirRule :
    (decoder .header).rxState = .header ∧
    (∀ k : Nat, k ∈ [0, 1, 2, 3] →
      k = if ({ decoder .header with rxHidx := k } : State).cfg.flagsByte then k else k + 1) ∧
    (∀ s : State, s = { small with rxState := .header, rxHidx := 2 } →
      s.rxState = .header ∧ 3 = (if s.cfg.flagsByte then s.rxHidx else s.rxHidx + 1) ∧
      s.cfg.maxBody.val < (0x03 : Byte).toNat ∧ (0x02 : Byte) ≠ 0 ∧ (0x02 : Byte).toNat ≤ s.cfg.maxBody.val) :=
  ⟨by decide, by decide, by rintro _ rfl; decide⟩

theorem witness_BodyBytesFollowTheirRule :
    (busy.rxState = .body ∧ busy.rxBody.length + 1 = busy.rxLen.toNat) ∧
    (∀ s : State, s = { busy with rxBody := [0x12] } → s.rxState = .body ∧ s.rxBody.length + 1 ≠ s.rxLen.toNat) :=
  ⟨by decide, by rintro _ rfl; decide⟩

theorem witness_CrcBytesFollowTheirRules :
    ((decoder .crc).rxState = .crc ∧ (decoder .crc).rxCidx = 0) ∧
    (∀ s : State, s = { decoder .crc with rxCidx := 1 } →
      s.rxState = .crc ∧ s.rxCidx ≠ 0 ∧ (s.rxChi ++ (0x92 : Byte) : Crc) ≠ s.rxCrc ∧ (s.rxChi ++ (0x91 : Byte) : Crc) = s.rxCrc ∧
      s.rxValid = false) ∧
    (∀ s : State, s = { decoder .crc with rxCidx := 1, rxValid := true } →
      s.rxState = .crc ∧ s.rxCidx ≠ 0 ∧ (s.rxChi ++ (0x91 : Byte) : Crc) = s.rxCrc ∧ s.rxValid = true) :=
  ⟨by decide, by rintro _ rfl; decide, by rintro _ rfl; decide⟩

theorem witness_RxTimeoutFollowsItsRule :
    (decoder .crc).rxState.inFrame = true ∧ (decoder .waitSom2).rxState.inFrame = false := by decide

theorem witness_RxHdrAndRxLenCrcFollowTheirRules :
    idle.rxValid = false ∧ received.rxValid = true ∧
    (∀ s : State, s = { small with rxValid := true, rxMsg := ⟨0, 1, 2, 0, [], crc16 [1, 2, 0]⟩ } →
      s.rxValid = true ∧ DecoderInv s ∧ s.cfg.flagsByte = false) := by
  refine ⟨by decide, by decide, ?_⟩
  rintro _ rfl
  exact ⟨rfl, ⟨by decide, by decide, by decide, by decide, by decide, by decide, by decide, by decide, by decide,
    fun _ => ⟨by decide, by decide, by decide, by decide⟩⟩, rfl⟩

theorem witness_RxBodyFollowsItsRule :
    idle.rxValid = false ∧ (received.rxValid = true ∧ received.rxMsg.len.toNat ≤ (3 : Byte).toNat) ∧
    (received.rxValid = true ∧ (2 : Byte).toNat < received.rxMsg.len.toNat ∧
      received.rxMsg.body[(2 : Byte).toNat]? = some 0x56) ∧
    busy.rxValid = true ∧ (2 : Byte).toNat < busy.rxMsg.len.toNat ∧ DecoderInv busy :=
  ⟨by decide, by decide, by decide, by decide, by decide, busy_decoderInv⟩

theorem witness_RxPopFollowsItsRule : idle.rxValid = false ∧ received.rxValid = true := by decide

/-- A step of each of the three kinds. -/
theorem witness_OnlyAMatchingFrameIsDelivered :
    (∃ t, step (next [.event .rxTimeout] busy) = .next t ∧ t.rxValid = true) ∧
    (∃ t, step (next [.command 0x23000000] received) = .next t ∧ t.rxValid = false) ∧
    (∃ t, step (next [.event (.rxByte 0x91)] { decoder .crc with rxCidx := 1 }) = .next t ∧ t.rxValid = true) :=
  ⟨⟨_, rfl, by decide⟩, ⟨_, rfl, by decide⟩, ⟨_, rfl, by decide⟩⟩

theorem witness_AtMostOneFlagPerStep :
    ∃ t, step (next [.event (.rxByte 0xFF)] busy) = .next t ∧ t.rxErr = 0b001000 :=
  ⟨_, rfl, by decide⟩

theorem witness_LineEnableFollowsItsRule :
    (encoder .txHold).txState = .txHold ∧ (encoder .txSend).txState = .txSend ∧
    (encoder .txDiscard).txState = .txDiscard ∧
    ((encoder .txWaitResp).txState = .txWaitResp ∧ (encoder .txWaitResp).lineState = .disabled) ∧
    (pending .enabled (encoder .txOpen)).txState = .txOpen ∧
    (pending .enabled (encoder .txOpen)).lineState = .enabled := by decide

theorem witness_LineDisableFollowsItsRule :
    (encoder .txHold).txState = .txHold ∧ (encoder .txSend).txState = .txSend ∧
    (encoder .txDiscard).txState = .txDiscard ∧
    ((pending .enabled (encoder .txOpen)).txState = .txOpen ∧
      (pending .enabled (encoder .txOpen)).lineState = .enabled) ∧
    (encoder .txWaitResp).txState = .txWaitResp ∧ (encoder .txWaitResp).lineState = .disabled := by decide

theorem witness_LineConfirmFollowsItsRule :
    idle.linePending = false ∧ LineState.disabled ≠ (pending .enabled idle).lineState ∧
    ((pending .enabled idle).linePending = true ∧ (pending .enabled idle).lineState = .enabled ∧
      (pending .enabled idle).txState ≠ .txHold) ∧
    busy.linePending = true ∧ busy.lineState = .enabled ∧ busy.txState = .txHold := by decide

theorem witness_NothingIsSentWhileTheLineIsPending :
    busy.linePending = true ∧
    (∃ t, step (next [.event (.lineConfirm .enabled)] busy) = .next t ∧ t.txOut ≠ busy.txOut) ∧
    ∃ t, step (next [.event (.lineConfirm .disabled)] busy) = .next t ∧ t.txOut = busy.txOut :=
  ⟨by decide, ⟨_, rfl, by decide⟩, _, rfl, by decide⟩

theorem witness_LevelIsKeptWhileAFrameIsOut :
    (busy.txState = .txHold ∨ busy.txState = .txSend ∨ busy.txState = .txDiscard) ∧
    (∀ rest, (next [.command 0x31000000] busy).inputs ≠ .command 0xF0000000 :: rest) ∧
    ∃ t, step (next [.command 0x31000000] busy) = .next t ∧ t.linePending = true :=
  ⟨by decide, fun _ h => (by cases h), _, rfl, by decide⟩

theorem witness_SoftResetFollowsItsRule :
    ((encoder .txSend).txState = .txSend ∨ (encoder .txSend).txState = .txDiscard) ∧
    ((encoder .txDiscard).txState = .txSend ∨ (encoder .txDiscard).txState = .txDiscard) ∧
    (encoder .txHold).txState ≠ .txSend ∧ (encoder .txHold).txState ≠ .txDiscard := by decide

theorem witness_RejectionChangesNothing :
    ∃ t, exec .txEnd (encoder .txSend) = .next t ∧ t.responses = [] ++ [0x01000000] ∧
      (0x01000000 : Word).extractLsb' 24 8 ≠ 0 :=
  ⟨_, rfl, by decide⟩

/-- A command of each list, run twice. -/
theorem witness_RepeatedCommandsFollowTheirRule :
    (∃ t u, exec .softReset busy = .next t ∧ exec .softReset t = .next u) ∧
    (∃ t u, exec (.clearFlags 0x3F) busy = .next t ∧ exec (.clearFlags 0x3F) t = .next u) ∧
    (∃ t, exec .rxPop received = .next t ∧ t.responses = received.responses ++ [0x00#8 ++ (0 : Data)]) ∧
    (∃ t, exec .txEnd (encoder .txOpen) = .next t ∧
      t.responses = (encoder .txOpen).responses ++ [0x00#8 ++ (0x038491 : Data)]) :=
  ⟨⟨_, _, rfl, rfl⟩, ⟨_, _, rfl, rfl⟩, ⟨_, rfl, by decide⟩, ⟨_, rfl, by decide⟩⟩

theorem witness_ReceiveEventsLeaveTheEncoderAlone :
    (∃ b, Event.rxByte 0xFF = .rxByte b) ∧ Event.rxTimeout = .rxTimeout := ⟨⟨_, rfl⟩, rfl⟩

theorem witness_EncoderCommandsLeaveTheDecoderAlone :
    ∃ t, exec .txEnd (encoder .txOpen) = .next t ∧ t.txState = .txSend := ⟨_, rfl, by decide⟩

theorem witness_FlagsReportOnly :
    Instr.rxPop ≠ .status ∧ (∀ mask, Instr.rxPop ≠ .clearFlags mask) ∧ ∃ t, exec .rxPop received = .next t :=
  ⟨by decide, fun _ h => (by cases h), _, rfl⟩

theorem witness_EmptyMessageRegisterIsUnobservable :
    ∀ s : State, s = next [.event (.rxByte 0x91)] { decoder .crc with rxCidx := 1 } →
      s.rxValid = false ∧ ∃ t, step s = .next t ∧ t.rxValid = true := by
  rintro _ rfl
  exact ⟨by decide, _, rfl, by decide⟩

end Sys2Proof.Tests
end

/-! The scope of a step (00_scope.md): the parameters are fixed (R6, 10_state.md R47) and the two output histories, of
wire bytes (R39) and of response words (30_encoding.md R76; the model's own, log 2), only grow. The relation is proved
of each operation that moves an output, then of the outcome of each command and of each event, then of a step. -/

namespace Sys2Proof.Machine

/-- From `s` to `t` the parameters stay and nothing handed out is taken back. -/
structure OutputsGrow (s t : State) : Prop where
  cfg       : t.cfg = s.cfg
  txOut     : s.txOut <+: t.txOut
  responses : s.responses <+: t.responses

namespace OutputsGrow

/-- An update of other fields. -/
theorem of_eq {s t : State} (hcfg : t.cfg = s.cfg) (htx : t.txOut = s.txOut) (hresp : t.responses = s.responses) :
    OutputsGrow s t :=
  ⟨hcfg, htx ▸ List.prefix_rfl, hresp ▸ List.prefix_rfl⟩

theorem refl (s : State) : OutputsGrow s s := of_eq rfl rfl rfl

theorem of_takeInput (s : State) (rest : List Input) : OutputsGrow s { s with inputs := rest } := of_eq rfl rfl rfl

theorem trans {s t u : State} (h : OutputsGrow s t) (h' : OutputsGrow t u) : OutputsGrow s u :=
  ⟨h'.cfg.trans h.cfg, h.txOut.trans h'.txOut, h.responses.trans h'.responses⟩

/-- The decoder has no output. -/
theorem of_decoderFrame {s t : State} (h : DecoderFrame s t) : OutputsGrow s t := by
  rw [h]
  exact of_eq rfl rfl rfl

theorem of_emit (xs : List Byte) (s : State) : OutputsGrow s (emit xs s) :=
  ⟨rfl, List.prefix_append _ _, List.prefix_rfl⟩

theorem of_respond (rc : ResultCode) (d : Data) (s : State) : OutputsGrow s (respond rc d s) :=
  ⟨rfl, List.prefix_rfl, List.prefix_append _ _⟩

theorem of_sendOrHold (frame : List Byte) (s : State) : OutputsGrow s (sendOrHold frame s) := by
  obtain ⟨-, heq⟩ | ⟨-, heq⟩ := sendOrHold_cases frame s <;> rw [heq]
  · exact of_eq rfl rfl rfl
  · exact ⟨rfl, List.prefix_append _ _, List.prefix_rfl⟩

theorem of_requestLine (v : LineState) (s : State) : OutputsGrow s (requestLine v s) := by
  obtain ⟨-, heq⟩ | ⟨-, heq⟩ := requestLine_cases v s <;> rw [heq] <;> exact of_eq rfl rfl rfl

theorem of_txDrain (s : State) : OutputsGrow s (txDrain s) := by
  obtain ⟨-, heq⟩ | ⟨-, heq⟩ | ⟨-, -, heq⟩ := txDrain_cases s <;> rw [heq] <;> exact of_eq rfl rfl rfl

theorem of_lineConfirm (v : LineState) (s : State) : OutputsGrow s (lineConfirm v s) := by
  obtain ⟨-, heq⟩ | ⟨-, -, -, heq⟩ | ⟨-, -, -, heq⟩ := lineConfirm_cases v s <;> rw [heq]
  · exact refl s
  · exact of_eq rfl rfl rfl
  · exact ⟨rfl, List.prefix_append _ _, List.prefix_rfl⟩

theorem of_applyEvent (e : Event) (s : State) : OutputsGrow s (applyEvent e s) := by
  cases e with
  | rxByte b => exact of_decoderFrame (rxByte_frame b s)
  | rxTimeout => exact of_decoderFrame (rxTimeout_frame s)
  | txDrain => exact of_txDrain s
  | lineConfirm v => exact of_lineConfirm v s

end OutputsGrow

/-- Every next state of the outcome `o` keeps what `s` had handed out. -/
def OutcomeGrows (s : State) (o : Host.Outcome State Fault Refusal) : Prop :=
  ∀ t, o = .next t → OutputsGrow s t

namespace OutcomeGrows

theorem of_ok {s u : State} (d : Data) (h : OutputsGrow s u) : OutcomeGrows s (ok d u) := by
  intro t ht
  rw [ok_eq_next.mp ht]
  exact h.trans (.of_respond _ _ _)

theorem of_reject (rc : ResultCode) (s : State) : OutcomeGrows s (reject rc s) := by
  intro t ht
  rw [reject_eq_next.mp ht]
  exact .of_respond _ _ _

/-- A command's check: rejected if it fails, the rest of the rule otherwise. -/
theorem of_check {s : State} {p : Prop} [Decidable p] (rc : ResultCode) {o : Host.Outcome State Fault Refusal}
    (h : OutcomeGrows s o) : OutcomeGrows s (if p then reject rc s else o) := by
  split
  · exact of_reject rc s
  · exact h

theorem of_exec (i : Instr) (s : State) : OutcomeGrows s (exec i s) := by
  cases i with
  | nop | crcRead | status => exact of_ok _ (.refl s)
  | crcInit | crcUpdate byte | clearFlags mask | softReset => exact of_ok _ (.of_eq rfl rfl rfl)
  | txStart flags dest cmd => exact of_check _ (of_check _ (of_ok _ (.of_eq rfl rfl rfl)))
  | txData byte => exact of_check _ (of_check _ (of_ok _ (.of_eq rfl rfl rfl)))
  | txEnd =>
    have hresp : OutputsGrow s { s with txResp := s.cfg.flagsByte && s.txFlags.getLsbD 1 } := .of_eq rfl rfl rfl
    exact of_check _ (of_ok _ (hresp.trans (.of_sendOrHold _ _)))
  | txFill byte => exact of_check _ (of_check _ (of_ok _ (.of_emit _ s)))
  | txRespDone | rxPop => exact of_check _ (of_ok _ (.of_eq rfl rfl rfl))
  | rxHdr | rxLenCrc => exact of_check _ (of_ok _ (.refl s))
  | rxBody index => exact of_check _ (of_check _ (of_ok _ (.refl s)))
  | lineEnable | lineDisable => exact of_check _ (of_ok _ (.of_requestLine _ s))

end OutcomeGrows

theorem OutputsGrow.of_runWord {w : Word} {s t : State} (h : runWord w s = .next t) : OutputsGrow s t := by
  obtain ⟨i, -, hexec⟩ | ⟨-, -, rfl⟩ := runWord_cases h
  · exact OutcomeGrows.of_exec i s t hexec
  · exact .of_respond _ _ _

theorem OutputsGrow.of_step {s t : State} (h : step s = .next t) : OutputsGrow s t := by
  obtain ⟨-, rfl⟩ | ⟨w, rest, -, hrun⟩ | ⟨e, rest, -, rfl⟩ := step_cases h
  · exact .refl _
  · exact (OutputsGrow.of_takeInput s rest).trans (.of_runWord hrun)
  · exact (OutputsGrow.of_takeInput s rest).trans (.of_applyEvent e _)

/-- Settles O13, from what each command and each event does to the outputs. -/
theorem parametersFixedAndOutputsOnlyGrow : Obligations.ParametersFixedAndOutputsOnlyGrow := by
  intro s t h
  obtain ⟨hcfg, htx, hresp⟩ := OutputsGrow.of_step h
  exact ⟨hcfg, htx, hresp⟩

end Sys2Proof.Machine

/-! The good states (10_state.md R20 to R27, R33 to R36, R42): first what each operation of the decoder does to
`DecoderInv`, in the order of its rules, then what the commands and the other events do to `EncoderInv`. -/

namespace Sys2Proof.Machine

/-! ## The header registers -/

/-- The header registers after field `k` is written. -/
theorem setHeaderField_eq (k : Nat) (v : Byte) (s : State) :
    setHeaderField k v s = { s with
      rxFlags := if k = 0 then v else s.rxFlags
      rxDest := if k = 1 then v else s.rxDest
      rxCmd := if k = 2 then v else s.rxCmd
      rxLen := if k = 3 then v else s.rxLen } := by
  unfold setHeaderField
  split
  case h_5 h0 h1 h2 h3 => rw [if_neg h0, if_neg h1, if_neg h2, if_neg h3]
  all_goals rfl

theorem headerField_eq_three_iff (cfg : Config) (i : Nat) : headerField cfg i = 3 ↔ i + 1 = headerCount cfg := by
  unfold headerField headerCount
  split <;> omega

theorem headerField_ne_zero {cfg : Config} (h : cfg.flagsByte = false) (i : Nat) : headerField cfg i ≠ 0 := by
  simp [headerField, h]

theorem rxHeader_length (s : State) : (rxHeader s).length = headerCount s.cfg := by
  unfold rxHeader headerCount
  split <;> rfl

/-- Header byte `i` goes to place `i` of the header (40_frame_decoder.md R107). -/
theorem rxHeader_setHeaderField {s : State} {i : Nat} (hi : i < headerCount s.cfg) (v : Byte) :
    rxHeader (setHeaderField (headerField s.cfg i) v s) = (rxHeader s).set i v := by
  rw [setHeaderField_eq]
  unfold headerCount at hi
  unfold rxHeader headerField
  cases hf : s.cfg.flagsByte <;> simp only [hf, if_true, if_false, Bool.false_eq_true] at hi ⊢ <;>
    interval_cases i <;> rfl

/-- HEADER with one more logical byte taken, before the state moves on (R107). -/
def headerTaken (v : Byte) (s : State) : State :=
  setHeaderField (headerField s.cfg s.rxHidx) v { s with rxCrc := crc16Step s.rxCrc v, rxHidx := s.rxHidx + 1 }

theorem headerByte_eq (v : Byte) (s : State) :
    headerByte v s =
      if s.rxHidx + 1 = headerCount s.cfg then afterLength v (headerTaken v s) else headerTaken v s := by
  rw [← ite_congr (propext (headerField_eq_three_iff s.cfg s.rxHidx)) (fun _ => rfl) (fun _ => rfl)]
  rfl

/-- What a header byte writes: the running CRC, the count and a header register, the flags only where the revision has
them, the length as the last one. -/
theorem headerTaken_eq (v : Byte) (s : State) : ∃ f d c l,
    headerTaken v s = { s with
      rxCrc := crc16Step s.rxCrc v, rxHidx := s.rxHidx + 1, rxFlags := f, rxDest := d, rxCmd := c, rxLen := l } ∧
    (s.cfg.flagsByte = false → f = s.rxFlags) ∧ (s.rxHidx + 1 = headerCount s.cfg → l = v) :=
  ⟨_, _, _, _, setHeaderField_eq _ v _, fun hf => if_neg (headerField_ne_zero hf _),
    fun hi => if_pos ((headerField_eq_three_iff _ _).mpr hi)⟩

theorem rxTaken_headerTaken {s : State} (hi : s.rxHidx < headerCount s.cfg) (hb : s.rxBody = []) (v : Byte) :
    rxTaken (headerTaken v s) = rxTaken s ++ [v] := by
  have hheader : rxHeader (headerTaken v s) = (rxHeader s).set s.rxHidx v :=
    rxHeader_setHeaderField (s := { s with rxCrc := crc16Step s.rxCrc v, rxHidx := s.rxHidx + 1 }) hi v
  have hlen : s.rxHidx < (rxHeader s).length := by rwa [rxHeader_length]
  have htake : ((rxHeader s).set s.rxHidx v).take (s.rxHidx + 1) = (rxHeader s).take s.rxHidx ++ [v] := by
    rw [List.take_add_one, List.getElem?_set_self hlen, List.take_set_of_le le_rfl]
    rfl
  obtain ⟨f, d, c, l, heq, -, -⟩ := headerTaken_eq v s
  rw [rxTaken, hheader, heq, rxTaken, hb, htake, List.append_nil, List.append_nil]

/-! ## The decoder -/

namespace DecoderInv

variable {s : State}

/-- Outside a frame no escape is pending (10_state.md R20). -/
theorem rxEsc_eq_false (h : DecoderInv s) (hs : s.rxState.inFrame = false) : s.rxEsc = false := by
  by_contra he
  have := h.esc_inFrame (Bool.eq_true_of_not_eq_false he)
  simp [hs] at this

protected theorem setFlag (h : DecoderInv s) (f : RxFlag) : DecoderInv (setFlag f s) := { h with }

/-- A frame may be left at any time: outside a frame only the bounds and the message register matter. -/
theorem leaveFrame (h : DecoderInv s) {r : RxState} {e : Bool} (he : e = false) (hr : r.inFrame = false) :
    DecoderInv { s with rxState := r, rxEsc := e } :=
  { h with
    esc_inFrame := fun h' => by simp [he] at h'
    crc_running := by simp [hr]
    in_header := by rintro rfl; cases hr
    in_body := by rintro rfl; cases hr
    in_crc := by rintro rfl; cases hr }

protected theorem outsideFrame (h : DecoderInv s) (hs : s.rxState.inFrame = false) (b : Byte) :
    DecoderInv (outsideFrame b s) :=
  h.leaveFrame (h.rxEsc_eq_false hs) (by split <;> rfl)

protected theorem startFrame (h : DecoderInv s) : DecoderInv (startFrame s) where
  hidx_le := Nat.zero_le _
  cidx_le := Nat.zero_le _
  esc_inFrame := nofun
  body_le := Nat.zero_le _
  flags_zero _ := rfl
  crc_running _ := rfl
  in_header _ := ⟨by rw [← rxHeader_length]; simp [rxHeader], rfl, rfl⟩
  in_body := nofun
  in_crc := nofun
  msg_good := h.msg_good

protected theorem secondMarker (h : DecoderInv s) (hs : s.rxState.inFrame = false) (b : Byte) :
    DecoderInv (secondMarker b s) := by
  unfold secondMarker
  split
  · exact h.startFrame
  · exact h.leaveFrame (h.rxEsc_eq_false hs) rfl

protected theorem inFrameMarker (h : DecoderInv s) : DecoderInv (inFrameMarker s) := by
  unfold inFrameMarker
  split
  · exact h
  · exact (h.setFlag .rearm).leaveFrame rfl rfl

/-- After a header byte the decoder may go to any state `r` whose own clauses hold. -/
theorem headerTaken_goto (h : DecoderInv s) (hs : s.rxState = .header) (hesc : s.rxEsc = false) (v : Byte)
    {r : RxState} {c : Nat} (hc : c = 0)
    (hheader : r = .header → s.rxHidx + 1 < headerCount s.cfg)
    (hbody : r = .body → s.rxHidx + 1 = headerCount s.cfg ∧ 0 < v.toNat ∧ v.toNat ≤ s.cfg.maxBody.val)
    (hcrc : r = .crc → s.rxHidx + 1 = headerCount s.cfg ∧ v.toNat = 0) :
    DecoderInv { headerTaken v s with rxState := r, rxCidx := c } := by
  obtain ⟨hidx, hnil, -⟩ := h.in_header hs
  have hrun : (headerTaken v s).rxCrc = crc16 (rxTaken (headerTaken v s)) := by
    rw [rxTaken_headerTaken hidx hnil, crc16_snoc, ← h.crc_running (by rw [hs]; rfl), headerTaken, setHeaderField_eq]
  obtain ⟨f, d, cmd, l, heq, hf, hl⟩ := headerTaken_eq v s
  rw [heq] at hrun ⊢
  exact {
    hidx_le := hidx
    cidx_le := hc.le.trans zero_le_one
    esc_inFrame := fun he => by simp [hesc] at he
    body_le := h.body_le
    flags_zero := fun h0 => (hf h0).trans (h.flags_zero h0)
    crc_running := fun _ => hrun
    in_header := fun hr => ⟨hheader hr, hnil, hc⟩
    in_body := fun hr => by
      obtain ⟨hi, hpos, hle⟩ := hbody hr
      simpa [hl hi, hnil, hi] using ⟨hpos, hle⟩
    in_crc := fun hr => by
      obtain ⟨hi, hzero⟩ := hcrc hr
      simp [hl hi, hnil, hzero, hi]
    msg_good := h.msg_good }

protected theorem afterLength (h : DecoderInv s) (hs : s.rxState = .header) (hesc : s.rxEsc = false) {v : Byte}
    (hlast : s.rxHidx + 1 = headerCount s.cfg) : DecoderInv (afterLength v (headerTaken v s)) := by
  obtain ⟨-, -, hcidx⟩ := h.in_header hs
  obtain ⟨f, d, cmd, l, heq, -, -⟩ := headerTaken_eq v s
  have hcfg : (headerTaken v s).cfg = s.cfg := by rw [heq]
  have hkeep : (headerTaken v s).rxCidx = 0 := by rw [heq]; exact hcidx
  unfold Machine.afterLength
  split_ifs with hlong hzero
  · exact (h.headerTaken_goto (r := .aborted) hs hesc v hkeep nofun nofun nofun).setFlag .lenErr
  · exact h.headerTaken_goto (r := .crc) hs hesc v rfl nofun nofun fun _ => ⟨hlast, by rw [hzero]; rfl⟩
  · have hpos : v.toNat ≠ 0 := fun h0 => hzero (BitVec.eq_of_toNat_eq h0)
    rw [hcfg] at hlong
    exact h.headerTaken_goto (r := .body) hs hesc v hkeep nofun (fun _ => ⟨hlast, by omega, by omega⟩) nofun

/-- Logical(v) in HEADER (R107). -/
protected theorem headerByte (h : DecoderInv s) (hs : s.rxState = .header) (hesc : s.rxEsc = false) (v : Byte) :
    DecoderInv (headerByte v s) := by
  obtain ⟨hidx, -, hcidx⟩ := h.in_header hs
  rw [headerByte_eq]
  split_ifs with hlast
  · exact h.afterLength hs hesc hlast
  · obtain ⟨f, d, cmd, l, heq, -, -⟩ := headerTaken_eq v s
    have hkeep : (headerTaken v s).rxCidx = 0 := by rw [heq]; exact hcidx
    have hstate : (headerTaken v s).rxState = .header := by rw [heq]; exact hs
    exact h.headerTaken_goto (r := (headerTaken v s).rxState) hs hesc v hkeep (fun _ => by omega) (by simp [hstate])
      (by simp [hstate])

/-- Logical(v) in BODY (R108). -/
protected theorem bodyByte (h : DecoderInv s) (hs : s.rxState = .body) (v : Byte) : DecoderInv (bodyByte v s) := by
  obtain ⟨hidx, hlt, hmax⟩ := h.in_body hs
  have hrun : crc16Step s.rxCrc v = crc16 (rxTaken { s with rxBody := bufAppend s.rxBody v }) := by
    rw [h.crc_running (by rw [hs]; rfl), ← crc16_snoc]
    exact congrArg crc16 (List.append_assoc _ _ _)
  have hle : (bufAppend s.rxBody v).length ≤ s.rxLen.toNat := by rw [bufAppend_length]; exact hlt
  unfold Machine.bodyByte
  simp only
  split_ifs with hfull
  · exact { h with
      cidx_le := Nat.zero_le _
      esc_inFrame := fun _ => rfl
      body_le := hle.trans hmax
      crc_running := fun _ => hrun
      in_header := nofun
      in_body := nofun
      in_crc := fun _ => ⟨hidx, hfull, hmax⟩ }
  · exact { h with
      body_le := hle.trans hmax
      crc_running := fun _ => hrun
      in_header := fun h' => by simp [hs] at h'
      in_body := fun _ => ⟨hidx, lt_of_le_of_ne hle hfull, hmax⟩
      in_crc := fun h' => by simp [hs] at h' }

/-- The message of a frame whose CRC matched is a good one (R27, R110). -/
theorem receivedMsg_good (h : DecoderInv s) (hs : s.rxState = .crc) {crc : Crc} (hcrc : crc = s.rxCrc) :
    (receivedMsg crc s).good s.cfg := by
  obtain ⟨hidx, hlen, hmax⟩ := h.in_crc hs
  have htaken : rxTaken s = (receivedMsg crc s).logical s.cfg := by
    rw [rxTaken, hidx, ← rxHeader_length, List.take_length]
    rfl
  exact ⟨hlen, hmax, h.flags_zero, by rw [← htaken, ← h.crc_running (by rw [hs]; rfl)]; exact hcrc⟩

protected theorem complete (h : DecoderInv s) (hs : s.rxState = .crc) (hesc : s.rxEsc = false) {crc : Crc}
    (hcrc : crc = s.rxCrc) : DecoderInv (complete crc s) := by
  have hload : DecoderInv { s with rxMsg := receivedMsg crc s, rxValid := true } :=
    { h with msg_good := fun _ => h.receivedMsg_good hs hcrc }
  unfold Machine.complete
  split
  · exact (h.setFlag .overrun).leaveFrame hesc rfl
  · exact hload.leaveFrame hesc rfl

/-- Logical(v) in CRC (R109). -/
protected theorem crcByte (h : DecoderInv s) (hs : s.rxState = .crc) (hesc : s.rxEsc = false) (v : Byte) :
    DecoderInv (crcByte v s) := by
  unfold Machine.crcByte
  split_ifs with hfirst hmatch
  · exact { h with cidx_le := le_rfl, in_header := fun h' => by simp [hs] at h' }
  · exact h.complete hs hesc hmatch
  · exact (h.setFlag .crcErr).leaveFrame hesc rfl

protected theorem logicalByte (h : DecoderInv s) (hesc : s.rxEsc = false) (v : Byte) :
    DecoderInv (logicalByte v s) := by
  unfold Machine.logicalByte
  split
  case h_1 hs => exact h.headerByte hs hesc v
  case h_2 hs => exact h.bodyByte hs v
  case h_3 hs => exact h.crcByte hs hesc v
  all_goals exact h

protected theorem escaped (h : DecoderInv s) (b : Byte) : DecoderInv (escaped b s) := by
  have hclear : DecoderInv { s with rxEsc := false } := { h with esc_inFrame := nofun }
  unfold Machine.escaped
  simp only
  split_ifs
  · exact hclear.logicalByte rfl _
  · exact hclear.logicalByte rfl _
  · exact (h.setFlag .escErr).leaveFrame rfl rfl

protected theorem inFrame (h : DecoderInv s) (hs : s.rxState.inFrame = true) (b : Byte) :
    DecoderInv (inFrame b s) := by
  unfold Machine.inFrame
  split_ifs with hmarker hesc hescape
  · exact h.inFrameMarker
  · exact h.escaped b
  · exact { h with esc_inFrame := fun _ => hs }
  · exact h.logicalByte (Bool.eq_false_iff.mpr hesc) b

protected theorem rxByte (h : DecoderInv s) (b : Byte) : DecoderInv (rxByte b s) := by
  obtain ⟨hs, heq⟩ | ⟨hs, heq⟩ | ⟨hs, heq⟩ := rxByte_cases b s <;> rw [heq]
  · exact h.outsideFrame (by obtain hs | hs | hs := hs <;> rw [hs] <;> rfl) b
  · exact h.secondMarker (by rw [hs]; rfl) b
  · exact h.inFrame (by obtain hs | hs | hs := hs <;> rw [hs] <;> rfl) b

protected theorem rxTimeout (h : DecoderInv s) : DecoderInv (rxTimeout s) := by
  unfold Machine.rxTimeout
  cases s.rxState
  case header | body | crc => exact (h.setFlag .tout).leaveFrame rfl rfl
  all_goals exact h.leaveFrame rfl rfl

protected theorem softReset (h : DecoderInv s) : DecoderInv (softReset s) where
  hidx_le := Nat.zero_le _
  cidx_le := Nat.zero_le _
  esc_inFrame := nofun
  body_le := Nat.zero_le _
  flags_zero := h.flags_zero
  crc_running := nofun
  in_header := nofun
  in_body := nofun
  in_crc := nofun
  msg_good := nofun

end DecoderInv

/-! ## The encoder and the line arbiter -/

/-- `t` differs from `s` in the fields of the encoder and of the line arbiter at most. -/
def EncoderFrame (s t : State) : Prop :=
  t = { s with
    txState := t.txState, txFlags := t.txFlags, txDest := t.txDest, txCmd := t.txCmd, txBody := t.txBody,
    txFrame := t.txFrame, txResp := t.txResp, txOut := t.txOut, lineState := t.lineState,
    linePending := t.linePending }

theorem sendOrHold_frame (frame : List Byte) (s : State) : EncoderFrame s (sendOrHold frame s) := by
  obtain ⟨-, heq⟩ | ⟨-, heq⟩ := sendOrHold_cases frame s <;> rw [heq] <;> rfl

theorem requestLine_frame (v : LineState) (s : State) : EncoderFrame s (requestLine v s) := by
  obtain ⟨-, heq⟩ | ⟨-, heq⟩ := requestLine_cases v s <;> rw [heq] <;> rfl

theorem txDrain_frame (s : State) : EncoderFrame s (txDrain s) := by
  obtain ⟨-, heq⟩ | ⟨-, heq⟩ | ⟨-, -, heq⟩ := txDrain_cases s <;> rw [heq] <;> rfl

theorem lineConfirm_frame (v : LineState) (s : State) : EncoderFrame s (lineConfirm v s) := by
  obtain ⟨-, heq⟩ | ⟨-, -, -, heq⟩ | ⟨-, -, -, heq⟩ := lineConfirm_cases v s <;> rw [heq] <;> rfl

/-- The encoder does not touch the decoder (41_frame_encoder.md R137). -/
theorem DecoderInv.of_encoderFrame {s t : State} (h : DecoderInv s) (hframe : EncoderFrame s t) : DecoderInv t := by
  rw [hframe]
  exact { h with }

namespace EncoderInv

variable {s : State}

/-- While no frame of the block is held or on the wire only the body's bound and the flags matter. -/
theorem of_noFrameOut (hbody : s.txBody.length ≤ s.cfg.maxBody.val)
    (hflags : s.cfg.flagsByte = false → s.txFlags = 0) (hhold : s.txState ≠ .txHold) (hsend : s.txState ≠ .txSend) : EncoderInv s where
  body_le := hbody
  flags_zero := hflags
  hold_pending h := absurd h hhold
  hold_frame h := absurd h hhold
  resp_flag h := absurd h (not_or.mpr ⟨hhold, hsend⟩)

/-- The encoder may always be put where it has no frame out. -/
theorem leaveFrame (h : EncoderInv s) {x : TxState} (hhold : x ≠ .txHold) (hsend : x ≠ .txSend) :
    EncoderInv { s with txState := x } :=
  of_noFrameOut h.body_le h.flags_zero hhold hsend

/-- The decoder does not touch the encoder (41_frame_encoder.md R137). -/
theorem of_decoderFrame {t : State} (h : EncoderInv s) (hframe : DecoderFrame s t) : EncoderInv t := by
  rw [hframe]
  exact { h with }

/-- TX_START (R125). -/
theorem startMessage (flags dest cmd : Byte) (s : State) :
    EncoderInv { s with
      txFlags := if s.cfg.flagsByte then flags else 0x00
      txDest := dest
      txCmd := cmd
      txBody := []
      txState := .txOpen } :=
  of_noFrameOut (Nat.zero_le _) (fun hf => if_neg (Bool.eq_false_iff.mp hf)) nofun nofun

/-- TX_DATA below the limit (R127). -/
theorem appendByte (h : EncoderInv s) (hopen : s.txState = .txOpen) (hroom : s.txBody.length ≠ s.cfg.maxBody.val)
    (b : Byte) : EncoderInv { s with txBody := bufAppend s.txBody b } :=
  of_noFrameOut (by rw [bufAppend_length]; exact lt_of_le_of_ne h.body_le hroom) h.flags_zero
    (by simp [hopen]) (by simp [hopen])

/-- TX_END (R129): the frame that is held is that of the message, and `tx_resp` is its flag. -/
theorem sendOrHold_wireFrame (h : EncoderInv s) :
    EncoderInv (sendOrHold (wireFrame (txLogical s))
      { s with txResp := s.cfg.flagsByte && s.txFlags.getLsbD 1 }) := by
  obtain ⟨hpending, heq⟩ | ⟨-, heq⟩ := sendOrHold_cases (wireFrame (txLogical s))
    { s with txResp := s.cfg.flagsByte && s.txFlags.getLsbD 1 } <;> rw [heq]
  · exact { h with hold_pending := fun _ => hpending, hold_frame := fun _ => rfl, resp_flag := fun _ => rfl }
  · exact { h with hold_pending := nofun, hold_frame := nofun, resp_flag := fun _ => rfl }

protected theorem emit (h : EncoderInv s) (xs : List Byte) : EncoderInv (emit xs s) := { h with }

protected theorem requestLine (h : EncoderInv s) (v : LineState) : EncoderInv (requestLine v s) := by
  obtain ⟨-, heq⟩ | ⟨-, heq⟩ := requestLine_cases v s <;> rw [heq]
  · exact h
  · exact { h with hold_pending := fun _ => rfl }

protected theorem softReset (h : EncoderInv s) : EncoderInv (softReset s) :=
  of_noFrameOut (Nat.zero_le _) h.flags_zero (by rw [softReset_txState]; split <;> nofun)
    (by rw [softReset_txState]; split <;> nofun)

protected theorem txDrain (h : EncoderInv s) : EncoderInv (txDrain s) := by
  obtain ⟨-, heq⟩ | ⟨-, heq⟩ | ⟨-, -, heq⟩ := txDrain_cases s <;> rw [heq]
  · exact h.leaveFrame (by split <;> nofun) (by split <;> nofun)
  · exact h.leaveFrame nofun nofun
  · exact h

/-- A confirm that ends the pending change also releases the frame held for it (43_line_arbiter.md R155). -/
protected theorem lineConfirm (h : EncoderInv s) (v : LineState) : EncoderInv (lineConfirm v s) := by
  obtain ⟨-, heq⟩ | ⟨-, -, hhold, heq⟩ | ⟨-, -, hhold, heq⟩ := lineConfirm_cases v s <;> rw [heq]
  · exact h
  · exact { h with hold_pending := fun h' => absurd h' hhold }
  · exact { h with hold_pending := nofun, hold_frame := nofun, resp_flag := fun _ => h.resp_flag (.inl hhold) }

end EncoderInv

/-! ## The outcome of a command -/

/-- Every next state of the outcome `o` satisfies `P`. -/
def NextSatisfies (P : State → Prop) (o : Host.Outcome State Fault Refusal) : Prop :=
  ∀ t, o = .next t → P t

namespace NextSatisfies

variable {P : State → Prop} {s : State}

theorem of_ok {d : Data} (h : P (respond .ok d s)) : NextSatisfies P (ok d s) := by
  intro t ht
  rwa [ok_eq_next.mp ht]

theorem of_reject {rc : ResultCode} (h : P (respond rc 0 s)) : NextSatisfies P (reject rc s) := by
  intro t ht
  rwa [reject_eq_next.mp ht]

/-- A command's check: the command is rejected, or the check passes and the rest of the rule runs. -/
theorem of_check {p : Prop} [Decidable p] {rc : ResultCode} {o : Host.Outcome State Fault Refusal}
    (hreject : P (respond rc 0 s)) (h : ¬ p → NextSatisfies P o) :
    NextSatisfies P (if p then reject rc s else o) := by
  split
  · exact of_reject hreject
  · exact h ‹_›

end NextSatisfies

/-! ## Commands, events and steps keep a good state good -/

namespace State.Inv

variable {s : State}

theorem takeInput (h : s.Inv) (rest : List Input) : State.Inv { s with inputs := rest } :=
  ⟨{ h.decoder with }, { h.encoder with }⟩

theorem respond (h : s.Inv) (rc : ResultCode) (d : Data) : (respond rc d s).Inv :=
  ⟨{ h.decoder with }, { h.encoder with }⟩

theorem ok (h : s.Inv) (d : Data) : NextSatisfies State.Inv (ok d s) := .of_ok (h.respond _ _)

theorem check (h : s.Inv) {p : Prop} [Decidable p] {rc : ResultCode} {o : Host.Outcome State Fault Refusal}
    (ho : ¬ p → NextSatisfies State.Inv o) : NextSatisfies State.Inv (if p then reject rc s else o) :=
  .of_check (h.respond _ _) ho

theorem exec (h : s.Inv) (i : Instr) : NextSatisfies State.Inv (exec i s) := by
  obtain ⟨hdec, henc⟩ := id h
  cases i with
  | nop | crcRead | status => exact h.ok _
  | crcInit | crcUpdate byte | clearFlags mask =>
    refine ok ⟨?_, ?_⟩ _
    exacts [{ hdec with }, { henc with }]
  | txStart flags dest cmd =>
    refine h.check fun _ => h.check fun _ => ok ⟨?_, ?_⟩ _
    exacts [{ hdec with }, .startMessage flags dest cmd s]
  | txData byte =>
    refine h.check fun hopen => h.check fun hroom => ok ⟨?_, ?_⟩ _
    exacts [{ hdec with }, henc.appendByte (not_not.mp hopen) hroom byte]
  | txEnd =>
    refine h.check fun _ => ok ⟨.of_encoderFrame ?_ (sendOrHold_frame _ _), henc.sendOrHold_wireFrame⟩ _
    exact { hdec with }
  | txFill byte =>
    refine h.check fun _ => h.check fun _ => ok ⟨?_, ?_⟩ _
    exacts [{ hdec with }, henc.emit _]
  | txRespDone =>
    refine h.check fun _ => ok ⟨?_, ?_⟩ _
    exacts [{ hdec with }, henc.leaveFrame nofun nofun]
  | rxHdr | rxLenCrc => exact h.check fun _ => h.ok _
  | rxBody index => exact h.check fun _ => h.check fun _ => h.ok _
  | rxPop =>
    refine h.check fun _ => ok ⟨?_, ?_⟩ _
    exacts [{ hdec with msg_good := nofun }, { henc with }]
  | lineEnable | lineDisable =>
    exact h.check fun _ => ok ⟨hdec.of_encoderFrame (requestLine_frame _ s), henc.requestLine _⟩ _
  | softReset => exact ok ⟨hdec.softReset, henc.softReset⟩ _

theorem applyEvent (h : s.Inv) (e : Event) : (applyEvent e s).Inv := by
  obtain ⟨hdec, henc⟩ := h
  cases e with
  | rxByte b => exact ⟨hdec.rxByte b, henc.of_decoderFrame (rxByte_frame b s)⟩
  | rxTimeout => exact ⟨hdec.rxTimeout, henc.of_decoderFrame (rxTimeout_frame s)⟩
  | txDrain => exact ⟨hdec.of_encoderFrame (txDrain_frame s), henc.txDrain⟩
  | lineConfirm v => exact ⟨hdec.of_encoderFrame (lineConfirm_frame v s), henc.lineConfirm v⟩

theorem runWord (h : s.Inv) (w : Word) : NextSatisfies State.Inv (runWord w s) := by
  intro t ht
  obtain ⟨i, -, hexec⟩ | ⟨-, -, rfl⟩ := runWord_cases ht
  · exact h.exec i t hexec
  · exact h.respond _ _

theorem step (h : s.Inv) : NextSatisfies State.Inv (step s) := by
  intro t ht
  obtain ⟨-, rfl⟩ | ⟨w, rest, -, hrun⟩ | ⟨e, rest, -, rfl⟩ := step_cases ht
  · exact h
  · exact (h.takeInput rest).runWord w t hrun
  · exact (h.takeInput rest).applyEvent e

end State.Inv

/-- Settles O11: each command and each event keeps the relations of the decoder, of the encoder and of the line. -/
theorem everyStepKeepsTheInvariant : Obligations.EveryStepKeepsTheInvariant :=
  fun _ t h ht => h.step t ht

end Sys2Proof.Machine

/-! Steps and runs: the step by its next input, the power-on state, and the good states along every run. -/

namespace Sys2Proof.Machine

/-! ## The step by its next input (10_state.md R15) -/

theorem step_nil {s : State} (h : s.inputs = []) : step s = .next s := by
  rw [step, takeInput_nil h]

theorem step_command {s : State} {w : Word} {rest : List Input} (h : s.inputs = .command w :: rest) :
    step s = runWord w { s with inputs := rest } := by
  rw [step, takeInput_cons h]

theorem step_event {s : State} {e : Event} {rest : List Input} (h : s.inputs = .event e :: rest) :
    step s = .next (applyEvent e { s with inputs := rest }) := by
  rw [step, takeInput_cons h]

theorem runWord_ok {s : State} {w : Word} {i : Instr} (h : decode s.cfg w = .ok i) : runWord w s = exec i s := by
  rw [runWord, h]

theorem runWord_error {s : State} {w : Word} {e : DecodeError} (h : decode s.cfg w = .error e) :
    runWord w s = reject .reserved s := by
  rw [runWord, h]
  rfl

/-- Settles O5, by the step's and the word's own equations. -/
theorem stepRunsTheDecodedCommand : Obligations.StepRunsTheDecodedCommand := by
  intro s w rest i hinputs hdecode
  rw [step_command hinputs]
  exact runWord_ok hdecode

/-! ## Power-on -/

/-- Settles O9: the default power-on state is that of the default parameters, and the table's values are those that
`State.powerOn` writes. -/
theorem powerOnValues : Obligations.PowerOnValues := by
  have hpowerOn : ∀ s : State, (s = State.reset ∨ ∃ cfg : Config, s = State.powerOn cfg) →
      ∃ cfg : Config, s = State.powerOn cfg := by
    rintro s (rfl | h)
    · exact ⟨Config.standard, rfl⟩
    · exact h
  intro s h
  obtain ⟨cfg, rfl⟩ := hpowerOn s h
  simp [State.powerOn]

theorem powerOn_decoderInv (cfg : Config) : DecoderInv (State.powerOn cfg) where
  hidx_le := Nat.zero_le _
  cidx_le := Nat.zero_le _
  esc_inFrame := nofun
  body_le := Nat.zero_le _
  flags_zero _ := rfl
  crc_running := nofun
  in_header := nofun
  in_body := nofun
  in_crc := nofun
  msg_good := nofun

theorem powerOn_inv (cfg : Config) : (State.powerOn cfg).Inv :=
  ⟨powerOn_decoderInv cfg, .of_noFrameOut (Nat.zero_le _) (fun _ => rfl) nofun nofun⟩

/-- Settles O10: at power-on no frame is begun on either side and no message is held. -/
theorem powerOnIsGood : Obligations.PowerOnIsGood := ⟨powerOn_inv _, powerOn_inv⟩

/-! ## Runs -/

/-- A longer run is a step and a run. -/
theorem run_succ_eq_next {M : Host.Core} {n : Nat} {s t : M.State} :
    M.run (n + 1) s = .next t ↔ ∃ u, M.step s = .next u ∧ M.run n u = .next t := by
  cases h : M.step s <;> simp [Host.Core.run, h]

/-- What every step keeps, every run keeps. -/
theorem run_keeps {P : State → Prop} (hstep : ∀ s t, P s → step s = .next t → P t) {n : Nat} {s t : State}
    (hs : P s) (hrun : Host.Core.run Sys2Proof.core n s = .next t) : P t := by
  induction n generalizing s with
  | zero => exact Host.Outcome.next.inj hrun ▸ hs
  | succ n ih =>
    obtain ⟨u, hu, hrest⟩ := run_succ_eq_next.mp hrun
    exact ih (hstep s u hs hu) hrest

/-- Every run from power-on ends in a good state of the same parameters. -/
theorem run_powerOn_inv {cfg : Config} {inputs : List Input} {n : Nat} {t : State}
    (hrun : Host.Core.run Sys2Proof.core n { State.powerOn cfg with inputs := inputs } = .next t) :
    t.Inv ∧ t.cfg = cfg := by
  refine run_keeps (P := fun s => s.Inv ∧ s.cfg = cfg) ?_ ⟨(powerOn_inv cfg).takeInput inputs, rfl⟩ hrun
  rintro s u ⟨hinv, hcfg⟩ hu
  exact ⟨hinv.step u hu, (OutputsGrow.of_step hu).cfg.trans hcfg⟩

/-- Settles O12, from the invariant at the end of the run. -/
theorem runsFromPowerOnStayGood : Obligations.RunsFromPowerOnStayGood := by
  intro cfg inputs n t hrun
  obtain ⟨⟨hdec, henc⟩, rfl⟩ := run_powerOn_inv hrun
  refine ⟨henc.hold_pending, fun hvalid => ?_, hdec.body_le, henc.body_le⟩
  obtain ⟨hlen, hmax, -, hcrc⟩ := hdec.msg_good hvalid
  exact ⟨hlen, hmax, hcrc⟩

/-! ## Level outputs (10_state.md R43 to R45) -/

theorem txBusy_eq_false {s : State} : txBusy s = false ↔ s.txState = .txIdle := by
  simp [txBusy]

theorem lineOut_eq_true {activeLow : Bool} {s : State} :
    lineOut activeLow s = true ↔
      s.lineState = .enabled ∧ activeLow = false ∨ s.lineState = .disabled ∧ activeLow = true := by
  cases h : s.lineState <;> cases activeLow <;> simp [lineOut, h]

/-- With no flags TX_START is refused for the encoder's state alone (41_frame_encoder.md R125). -/
theorem exec_txStart_noFlags_busy {s : State} (h : s.txState ≠ .txIdle) (dest cmd : Byte) :
    exec (.txStart 0 dest cmd) s = reject .state s := by
  simp [exec, execTxStart, h]

theorem exec_txStart_noFlags_idle {s : State} (h : s.txState = .txIdle) (dest cmd : Byte) :
    ∃ u, exec (.txStart 0 dest cmd) s = ok 0 u ∧ u.responses = s.responses :=
  ⟨_, (if_neg fun hflags => hflags.2 rfl).trans (if_neg (not_not.mpr h)), rfl⟩

/-- TX_BUSY is 0 exactly when the state check of TX_START passes (R44). -/
theorem txBusy_eq_false_iff_txStart_ok (s : State) (dest cmd : Byte) :
    txBusy s = false ↔
      ∃ t, exec (.txStart 0 dest cmd) s = .next t ∧ t.responses = s.responses ++ [0x00000000] := by
  rw [txBusy_eq_false]
  constructor
  · intro hidle
    obtain ⟨u, heq, hresp⟩ := exec_txStart_noFlags_idle hidle dest cmd
    exact ⟨_, heq, by rw [respond_responses, hresp]; rfl⟩
  · rintro ⟨t, heq, hresp⟩
    by_contra hbusy
    rw [exec_txStart_noFlags_busy hbusy, reject_eq_next] at heq
    rw [heq, respond_responses, List.append_cancel_left_eq] at hresp
    exact absurd hresp (by decide)

/-- Settles O49, output by output. -/
theorem levelOutputsFollowTheState : Obligations.LevelOutputsFollowTheState := by
  intro s
  refine ⟨rfl, ?_, txBusy_eq_false_iff_txStart_ok s, fun _ => lineOut_eq_true⟩
  rw [Ne, ← txBusy_eq_false, Bool.not_eq_false]

end Sys2Proof.Machine

/-! The receive-error flags along a step (10_state.md R31): a receive event raises at most one, a command at most clears
some. -/

namespace Sys2Proof.Machine

/-! ## Receive events -/

/-- From `s` to `t` at most one receive-error flag is set and none is cleared. -/
def RaisesAtMostOne (s t : State) : Prop :=
  t.rxErr = s.rxErr ∨ ∃ f : RxFlag, t.rxErr = (setFlag f s).rxErr

namespace RaisesAtMostOne

theorem of_secondMarker (b : Byte) (s : State) : RaisesAtMostOne s (secondMarker b s) := by
  unfold secondMarker
  split
  · exact .inl rfl
  · exact .inl rfl

theorem of_inFrameMarker (s : State) : RaisesAtMostOne s (inFrameMarker s) := by
  unfold inFrameMarker
  split
  · exact .inl rfl
  · exact .inr ⟨.rearm, rfl⟩

theorem of_afterLength (v : Byte) (s : State) : RaisesAtMostOne s (afterLength v s) := by
  unfold afterLength
  split_ifs
  · exact .inr ⟨.lenErr, rfl⟩
  · exact .inl rfl
  · exact .inl rfl

theorem of_headerByte (v : Byte) (s : State) : RaisesAtMostOne s (headerByte v s) := by
  have htaken : (headerTaken v s).rxErr = s.rxErr := by
    obtain ⟨f, d, c, l, heq, -, -⟩ := headerTaken_eq v s
    rw [heq]
  rw [headerByte_eq]
  split
  · have h := of_afterLength v (headerTaken v s)
    simpa only [RaisesAtMostOne, setFlag_rxErr, htaken] using h
  · exact .inl htaken

theorem of_bodyByte (v : Byte) (s : State) : RaisesAtMostOne s (bodyByte v s) := by
  unfold bodyByte
  simp only
  split
  · exact .inl rfl
  · exact .inl rfl

theorem of_complete (crc : Crc) (s : State) : RaisesAtMostOne s (complete crc s) := by
  unfold complete
  split
  · exact .inr ⟨.overrun, rfl⟩
  · exact .inl rfl

theorem of_crcByte (v : Byte) (s : State) : RaisesAtMostOne s (crcByte v s) := by
  unfold crcByte
  split_ifs
  · exact .inl rfl
  · exact of_complete _ s
  · exact .inr ⟨.crcErr, rfl⟩

theorem of_logicalByte (v : Byte) (s : State) : RaisesAtMostOne s (logicalByte v s) := by
  unfold logicalByte
  split
  · exact of_headerByte v s
  · exact of_bodyByte v s
  · exact of_crcByte v s
  all_goals exact .inl rfl

theorem of_escaped (b : Byte) (s : State) : RaisesAtMostOne s (escaped b s) := by
  unfold escaped
  simp only
  split_ifs
  · exact of_logicalByte 0xFE { s with rxEsc := false }
  · exact of_logicalByte 0xFF { s with rxEsc := false }
  · exact .inr ⟨.escErr, rfl⟩

theorem of_inFrame (b : Byte) (s : State) : RaisesAtMostOne s (inFrame b s) := by
  unfold inFrame
  split_ifs
  · exact of_inFrameMarker s
  · exact of_escaped b s
  · exact .inl rfl
  · exact of_logicalByte b s

theorem of_rxByte (b : Byte) (s : State) : RaisesAtMostOne s (rxByte b s) := by
  obtain ⟨-, heq⟩ | ⟨-, heq⟩ | ⟨-, heq⟩ := rxByte_cases b s <;> rw [heq]
  · exact .inl rfl
  · exact of_secondMarker b s
  · exact of_inFrame b s

theorem of_rxTimeout (s : State) : RaisesAtMostOne s (rxTimeout s) := by
  unfold rxTimeout
  cases s.rxState
  case header | body | crc => exact .inr ⟨.tout, rfl⟩
  all_goals exact .inl rfl

theorem of_receiveEvent {e : Event} (he : (∃ b, e = .rxByte b) ∨ e = .rxTimeout) (s : State) :
    RaisesAtMostOne s (applyEvent e s) := by
  obtain ⟨b, rfl⟩ | rfl := he
  · exact of_rxByte b s
  · exact of_rxTimeout s

end RaisesAtMostOne

/-- Each flag is one of the six bits of `rxerr` (R29). -/
theorem setFlag_rxErr_shift (f : RxFlag) (s : State) :
    ∃ k : Fin 6, (setFlag f s).rxErr = s.rxErr ||| 1#6 <<< k.val :=
  ⟨⟨f.bit, by cases f <;> decide⟩, by rw [setFlag_rxErr]; cases f <;> rfl⟩

theorem RaisesAtMostOne.flag_or_eq {s t : State} (h : RaisesAtMostOne s t) :
    (∃ k : Fin 6, t.rxErr = s.rxErr ||| 1#6 <<< k.val) ∨ t.rxErr = s.rxErr := by
  obtain heq | ⟨f, heq⟩ := h
  · exact .inr heq
  · exact .inl (heq ▸ setFlag_rxErr_shift f s)

/-! ## Commands and the other events -/

/-- From `s` to `t` the flags of some mask are cleared and none is set. -/
def OnlyClears (s t : State) : Prop := ∃ mask : BitVec 6, t.rxErr = s.rxErr &&& ~~~mask

namespace OnlyClears

variable {s t : State}

theorem of_eq (h : t.rxErr = s.rxErr) : OnlyClears s t := ⟨0, h.trans BitVec.and_allOnes.symm⟩

theorem of_encoderFrame (h : EncoderFrame s t) : OnlyClears s t := of_eq (by rw [h])

/-- No flag is set that was not set before. -/
theorem no_new_flag (h : OnlyClears s t) : t.rxErr &&& ~~~s.rxErr = 0 := by
  obtain ⟨mask, hmask⟩ := h
  rw [hmask, BitVec.and_assoc, BitVec.and_comm (~~~mask), ← BitVec.and_assoc, BitVec.and_not_self]
  exact BitVec.zero_and

theorem ok (h : OnlyClears s t) (d : Data) : NextSatisfies (OnlyClears s) (ok d t) := .of_ok h

theorem check {p : Prop} [Decidable p] {rc : ResultCode} {o : Host.Outcome State Fault Refusal}
    (ho : NextSatisfies (OnlyClears s) o) : NextSatisfies (OnlyClears s) (if p then reject rc s else o) :=
  .of_check (of_eq rfl) fun _ => ho

theorem exec (i : Instr) (s : State) : NextSatisfies (OnlyClears s) (exec i s) := by
  cases i with
  | nop | crcInit | crcUpdate byte | crcRead | status => exact ok (of_eq rfl) _
  | txStart flags dest cmd => exact check (check (ok (of_eq rfl) _))
  | txData byte => exact check (check (ok (of_eq rfl) _))
  | txEnd =>
    have hframe := sendOrHold_frame (wireFrame (txLogical s))
      { s with txResp := s.cfg.flagsByte && s.txFlags.getLsbD 1 }
    exact check (ok (of_encoderFrame hframe) _)
  | txFill byte => exact check (check (ok (of_eq rfl) _))
  | txRespDone | rxHdr | rxLenCrc | rxPop => exact check (ok (of_eq rfl) _)
  | rxBody index => exact check (check (ok (of_eq rfl) _))
  | lineEnable | lineDisable => exact check (ok (of_encoderFrame (requestLine_frame _ s)) _)
  | clearFlags mask => exact ok ⟨mask, rfl⟩ _
  | softReset => exact ok ⟨BitVec.allOnes 6, by simp⟩ _

theorem runWord (w : Word) (s : State) : NextSatisfies (OnlyClears s) (runWord w s) := by
  intro t ht
  obtain ⟨i, -, hexec⟩ | ⟨-, -, rfl⟩ := runWord_cases ht
  · exact exec i s t hexec
  · exact of_eq rfl

theorem of_otherEvent {e : Event} (he : ¬ ((∃ b, e = .rxByte b) ∨ e = .rxTimeout)) (s : State) :
    OnlyClears s (applyEvent e s) := by
  cases e with
  | rxByte b => exact absurd (.inl ⟨b, rfl⟩) he
  | rxTimeout => exact absurd (.inr rfl) he
  | txDrain => exact of_encoderFrame (txDrain_frame s)
  | lineConfirm v => exact of_encoderFrame (lineConfirm_frame v s)

end OnlyClears

/-- Settles O43: the receive events raise one flag or none, every other step at most clears flags. -/
theorem atMostOneFlagPerStep : Obligations.AtMostOneFlagPerStep := by
  intro s t h
  obtain ⟨-, rfl⟩ | ⟨w, rest, -, hrun⟩ | ⟨e, rest, hinputs, rfl⟩ := step_cases h
  · exact .inr (OnlyClears.of_eq rfl).no_new_flag
  · exact .inr (OnlyClears.runWord w { s with inputs := rest } t hrun).no_new_flag
  · by_cases he : (∃ b, e = .rxByte b) ∨ e = .rxTimeout
    · obtain hflag | heq := (RaisesAtMostOne.of_receiveEvent he { s with inputs := rest }).flag_or_eq
      · exact .inl ⟨hflag, e, rest, hinputs, he⟩
      · exact .inr (OnlyClears.of_eq heq).no_new_flag
    · exact .inr (OnlyClears.of_otherEvent he { s with inputs := rest }).no_new_flag

end Sys2Proof.Machine

/-! What no step looks at (10_state.md R28, R30): two states that differ in the receive-error flags, or in the content
of an empty message register, step to states that differ in no more. -/

namespace Sys2Proof.Machine

/-- `t` is `s` but for the flags and the message register; the flags agree if `p` holds, the registers if `q` holds or a
message is valid. -/
def Alike (p q : Prop) (s t : State) : Prop :=
  ∃ (e : BitVec 6) (m : Msg), t = { s with rxErr := e, rxMsg := m } ∧ (p → e = s.rxErr) ∧
    (q ∨ s.rxValid = true → m = s.rxMsg)

namespace Alike

variable {p q : Prop} {s t : State}

theorem takeInput (h : Alike p q s t) (rest : List Input) :
    Alike p q { s with inputs := rest } { t with inputs := rest } := by
  obtain ⟨e, m, rfl, he, hm⟩ := h
  exact ⟨e, m, rfl, he, hm⟩

theorem respond (h : Alike p q s t) (rc : ResultCode) (d : Data) : Alike p q (respond rc d s) (respond rc d t) := by
  obtain ⟨e, m, rfl, he, hm⟩ := h
  exact ⟨e, m, rfl, he, hm⟩

/-- Both states take the same branch. -/
theorem ite {c : Prop} [Decidable c] {s' t' : State} (h : Alike p q s t) (h' : Alike p q s' t') :
    Alike p q (if c then s else s') (if c then t else t') := by
  split
  · exact h
  · exact h'

/-! ## Receive events -/

theorem setFlag (h : Alike p q s t) (f : RxFlag) : Alike p q (setFlag f s) (setFlag f t) := by
  obtain ⟨e, m, rfl, he, hm⟩ := h
  exact ⟨_, m, rfl, fun hp => by simp only [setFlag_rxErr, he hp], hm⟩

theorem goto (h : Alike p q s t) (r : RxState) (esc : Bool) :
    Alike p q { s with rxState := r, rxEsc := esc } { t with rxState := r, rxEsc := esc } := by
  obtain ⟨e, m, rfl, he, hm⟩ := h
  exact ⟨e, m, rfl, he, hm⟩

theorem outsideFrame (h : Alike p q s t) (b : Byte) : Alike p q (outsideFrame b s) (outsideFrame b t) := by
  obtain ⟨e, m, rfl, he, hm⟩ := h
  exact ⟨e, m, rfl, he, hm⟩

theorem secondMarker (h : Alike p q s t) (b : Byte) : Alike p q (secondMarker b s) (secondMarker b t) := by
  obtain ⟨e, m, rfl, he, hm⟩ := h
  exact ite ⟨e, m, rfl, he, hm⟩ ⟨e, m, rfl, he, hm⟩

theorem inFrameMarker (h : Alike p q s t) : Alike p q (inFrameMarker s) (inFrameMarker t) := by
  have hrearm := (h.setFlag .rearm).goto .waitSom2 false
  obtain ⟨e, m, rfl, he, hm⟩ := id h
  exact ite h hrearm

theorem headerTaken (h : Alike p q s t) (v : Byte) : Alike p q (headerTaken v s) (headerTaken v t) := by
  obtain ⟨e, m, rfl, he, hm⟩ := h
  simp only [Machine.headerTaken, setHeaderField_eq]
  exact ⟨e, m, rfl, he, hm⟩

theorem afterLength (h : Alike p q s t) (v : Byte) : Alike p q (afterLength v s) (afterLength v t) := by
  have hlong := (h.setFlag .lenErr).goto .aborted s.rxEsc
  obtain ⟨e, m, rfl, he, hm⟩ := h
  exact ite hlong (ite ⟨e, m, rfl, he, hm⟩ ⟨e, m, rfl, he, hm⟩)

theorem headerByte (h : Alike p q s t) (v : Byte) : Alike p q (headerByte v s) (headerByte v t) := by
  have htaken := h.headerTaken v
  rw [headerByte_eq, headerByte_eq]
  obtain ⟨e, m, rfl, -, -⟩ := h
  exact ite (htaken.afterLength v) htaken

theorem bodyByte (h : Alike p q s t) (v : Byte) : Alike p q (bodyByte v s) (bodyByte v t) := by
  obtain ⟨e, m, rfl, he, hm⟩ := h
  exact ite ⟨e, m, rfl, he, hm⟩ ⟨e, m, rfl, he, hm⟩

/-- A delivered message overwrites the register whole (40_frame_decoder.md R110). -/
theorem complete (h : Alike p q s t) (crc : Crc) : Alike p q (complete crc s) (complete crc t) := by
  have hoverrun := (h.setFlag .overrun).goto .ready s.rxEsc
  obtain ⟨e, m, rfl, he, hm⟩ := h
  exact ite hoverrun ⟨e, receivedMsg crc s, rfl, he, fun _ => rfl⟩

theorem crcByte (h : Alike p q s t) (v : Byte) : Alike p q (crcByte v s) (crcByte v t) := by
  have hcomplete := h.complete (joinCrc s.rxChi v)
  have hwrong := (h.setFlag .crcErr).goto .aborted s.rxEsc
  obtain ⟨e, m, rfl, he, hm⟩ := h
  exact ite ⟨e, m, rfl, he, hm⟩ (ite hcomplete hwrong)

theorem rxState_eq (h : Alike p q s t) : t.rxState = s.rxState := by
  obtain ⟨e, m, rfl, -, -⟩ := h
  rfl

theorem logicalByte (h : Alike p q s t) (v : Byte) : Alike p q (logicalByte v s) (logicalByte v t) := by
  unfold Machine.logicalByte
  rw [h.rxState_eq]
  cases s.rxState with
  | header => exact h.headerByte v
  | body => exact h.bodyByte v
  | crc => exact h.crcByte v
  | waitSom1 | waitSom2 | ready | aborted => exact h

theorem escaped (h : Alike p q s t) (b : Byte) : Alike p q (escaped b s) (escaped b t) := by
  have hclear : Alike p q { s with rxEsc := false } { t with rxEsc := false } := by
    obtain ⟨e, m, rfl, he, hm⟩ := h
    exact ⟨e, m, rfl, he, hm⟩
  exact ite (hclear.logicalByte _) (ite (hclear.logicalByte _) ((hclear.setFlag .escErr).goto .aborted false))

theorem inFrame (h : Alike p q s t) (b : Byte) : Alike p q (inFrame b s) (inFrame b t) := by
  have hmarker := h.inFrameMarker
  have hescaped := h.escaped b
  have hlogical := h.logicalByte b
  obtain ⟨e, m, rfl, he, hm⟩ := h
  exact ite hmarker (ite hescaped (ite ⟨e, m, rfl, he, hm⟩ hlogical))

theorem rxByte (h : Alike p q s t) (b : Byte) : Alike p q (rxByte b s) (rxByte b t) := by
  unfold Machine.rxByte
  rw [h.rxState_eq]
  cases s.rxState with
  | waitSom1 | ready | aborted => exact h.outsideFrame b
  | waitSom2 => exact h.secondMarker b
  | header | body | crc => exact h.inFrame b

theorem rxTimeout (h : Alike p q s t) : Alike p q (rxTimeout s) (rxTimeout t) := by
  unfold Machine.rxTimeout
  rw [h.rxState_eq]
  cases s.rxState with
  | header | body | crc => exact (h.setFlag .tout).goto .waitSom1 false
  | waitSom1 | waitSom2 | ready | aborted => exact h.goto .waitSom1 false

/-! ## The encoder and the line arbiter -/

theorem sendOrHold (h : Alike p q s t) (frame : List Byte) :
    Alike p q (sendOrHold frame s) (sendOrHold frame t) := by
  obtain ⟨e, m, rfl, he, hm⟩ := h
  exact ite ⟨e, m, rfl, he, hm⟩ ⟨e, m, rfl, he, hm⟩

theorem requestLine (h : Alike p q s t) (v : LineState) : Alike p q (requestLine v s) (requestLine v t) := by
  obtain ⟨e, m, rfl, he, hm⟩ := id h
  exact ite h ⟨e, m, rfl, he, hm⟩

theorem txDrain (h : Alike p q s t) : Alike p q (txDrain s) (txDrain t) := by
  have htx : t.txState = s.txState := by
    obtain ⟨e, m, rfl, -, -⟩ := h
    rfl
  unfold Machine.txDrain
  rw [htx]
  cases s.txState with
  | txSend | txDiscard =>
    obtain ⟨e, m, rfl, he, hm⟩ := h
    exact ⟨e, m, rfl, he, hm⟩
  | txIdle | txOpen | txHold | txWaitResp => exact h

theorem lineConfirm (h : Alike p q s t) (v : LineState) : Alike p q (lineConfirm v s) (lineConfirm v t) := by
  obtain ⟨e, m, rfl, he, hm⟩ := id h
  exact ite (ite ⟨e, m, rfl, he, hm⟩ ⟨e, m, rfl, he, hm⟩) h

theorem applyEvent (h : Alike p q s t) (e : Event) : Alike p q (applyEvent e s) (applyEvent e t) := by
  cases e with
  | rxByte b => exact h.rxByte b
  | rxTimeout => exact h.rxTimeout
  | txDrain => exact h.txDrain
  | lineConfirm v => exact h.lineConfirm v

end Alike

/-! ## Commands -/

/-- Every next state of `o` has its like in `o'`. -/
def OutcomesAlike (p q : Prop) (o o' : Host.Outcome State Fault Refusal) : Prop :=
  ∀ t, o = .next t → ∃ t', o' = .next t' ∧ Alike p q t t'

namespace OutcomesAlike

variable {p q : Prop} {s t : State}

theorem of_next (h : Alike p q s t) : OutcomesAlike p q (.next s) (.next t) := by
  rintro _ ⟨⟩
  exact ⟨t, rfl, h⟩

theorem of_ok {d : Data} (h : Alike p q s t) : OutcomesAlike p q (ok d s) (ok d t) := of_next (h.respond _ _)

/-- A command's check, of fields in which the states agree. -/
theorem of_check {c : Prop} [Decidable c] {rc : ResultCode} {o o' : Host.Outcome State Fault Refusal}
    (h : Alike p q s t) (ho : ¬ c → OutcomesAlike p q o o') :
    OutcomesAlike p q (if c then reject rc s else o) (if c then reject rc t else o') := by
  split
  · exact of_next (h.respond _ _)
  · exact ho ‹_›

/-- Every command keeps two states alike; STATUS and CLEAR_FLAGS, which answer the flags, if the flags agree. -/
theorem of_exec (h : Alike p q s t) (i : Instr) (hi : p ∨ i ≠ .status ∧ ∀ mask, i ≠ .clearFlags mask) :
    OutcomesAlike p q (exec i s) (exec i t) := by
  obtain ⟨e, m, rfl, he, hm⟩ := id h
  have hmsg (hvalid : ¬ s.rxValid = false) : m = s.rxMsg := hm (.inr (Bool.eq_true_of_not_eq_false hvalid))
  cases i with
  | nop | crcRead => exact of_ok h
  | crcInit | crcUpdate byte => exact of_ok ⟨e, m, rfl, he, hm⟩
  | txStart flags dest cmd => exact of_check h fun _ => of_check h fun _ => of_ok ⟨e, m, rfl, he, hm⟩
  | txData byte => exact of_check h fun _ => of_check h fun _ => of_ok ⟨e, m, rfl, he, hm⟩
  | txEnd =>
    refine of_check h fun _ => of_ok (.sendOrHold ?_ _)
    exact ⟨e, m, rfl, he, hm⟩
  | txFill byte => exact of_check h fun _ => of_check h fun _ => of_ok ⟨e, m, rfl, he, hm⟩
  | txRespDone => exact of_check h fun _ => of_ok ⟨e, m, rfl, he, hm⟩
  | rxHdr | rxLenCrc =>
    refine of_check h fun hvalid => ?_
    obtain rfl := hmsg hvalid
    exact of_ok h
  | rxBody index =>
    refine of_check h fun hvalid => ?_
    obtain rfl := hmsg hvalid
    exact of_check h fun _ => of_ok h
  | rxPop => exact of_check h fun _ => of_ok ⟨e, m, rfl, he, fun hq => hm (hq.imp_right nofun)⟩
  | lineEnable | lineDisable => exact of_check h fun _ => of_ok (h.requestLine _)
  | status =>
    obtain rfl := he (hi.resolve_right fun hne => hne.1 rfl)
    exact of_ok h
  | clearFlags mask =>
    obtain rfl := he (hi.resolve_right fun hne => hne.2 mask rfl)
    exact of_ok ⟨_, m, rfl, fun _ => rfl, hm⟩
  | softReset => exact of_ok ⟨0, m, rfl, fun _ => rfl, fun hq => hm (hq.imp_right nofun)⟩

theorem of_runWord (h : Alike p q s t) (hp : p) (w : Word) : OutcomesAlike p q (runWord w s) (runWord w t) := by
  have hcfg : t.cfg = s.cfg := by
    obtain ⟨e, m, rfl, -, -⟩ := h
    rfl
  cases hd : decode s.cfg w with
  | ok i =>
    rw [runWord_ok hd, runWord_ok (hcfg ▸ hd)]
    exact of_exec h i (.inl hp)
  | error e =>
    rw [runWord_error hd, runWord_error (hcfg ▸ hd)]
    exact of_next (h.respond _ _)

theorem of_step (h : Alike p q s t) (hp : p) : OutcomesAlike p q (step s) (step t) := by
  have hinputs : t.inputs = s.inputs := by
    obtain ⟨e, m, rfl, -, -⟩ := h
    rfl
  match hs : s.inputs with
  | [] =>
    rw [step_nil hs, step_nil (hinputs.trans hs)]
    exact of_next h
  | .command w :: rest =>
    rw [step_command hs, step_command (hinputs.trans hs)]
    exact of_runWord (h.takeInput rest) hp w
  | .event e :: rest =>
    rw [step_event hs, step_event (hinputs.trans hs)]
    exact of_next ((h.takeInput rest).applyEvent e)

end OutcomesAlike

/-- Settles O58: with the flags alone free, every event and every command but the two that answer the flags keep the
states alike. -/
theorem flagsReportOnly : Obligations.FlagsReportOnly := by
  intro s f
  have h : Alike False True s { s with rxErr := f } := ⟨f, s.rxMsg, rfl, False.elim, fun _ => rfl⟩
  constructor
  · intro ev
    obtain ⟨g, m, heq, -, hm⟩ := h.applyEvent ev
    obtain rfl := hm (.inl trivial)
    exact ⟨g, heq⟩
  · intro i t hstatus hclear ht
    obtain ⟨t', ht', g, m, rfl, -, hm⟩ := OutcomesAlike.of_exec h i (.inr ⟨hstatus, hclear⟩) t ht
    obtain rfl := hm (.inl trivial)
    exact ⟨g, ht'⟩

/-- Settles O59: with the content of the empty register alone free, every step keeps the states alike. -/
theorem emptyMessageRegisterIsUnobservable : Obligations.EmptyMessageRegisterIsUnobservable := by
  intro s t m hempty ht
  have h : Alike True False s { s with rxMsg := m } :=
    ⟨s.rxErr, m, rfl, fun _ => rfl, fun hvalid => by simp [hempty] at hvalid⟩
  obtain ⟨t', ht', e, m', rfl, he, hm⟩ := OutcomesAlike.of_step h trivial t ht
  obtain rfl := he trivial
  exact ⟨m', ht', fun hvalid => hm (.inr hvalid)⟩

end Sys2Proof.Machine

/-! Repeated commands (20_memory.md R57): the commands whose second issue only answers, and the commands that make
their own check fail. -/

namespace Sys2Proof.Machine

/-! ## Commands whose second issue only answers -/

/-- Every next state of `o` is `s` with other responses. -/
def AnswersOnly (s : State) (o : Host.Outcome State Fault Refusal) : Prop :=
  NextSatisfies (fun t => t = { s with responses := t.responses }) o

namespace AnswersOnly

variable {s : State}

/-- An update that finds its effect in place already. -/
theorem of_ok {u : State} (h : u = s) (d : Data) : AnswersOnly s (ok d u) := by
  subst h
  exact NextSatisfies.of_ok rfl

theorem of_check {c : Prop} [Decidable c] {rc : ResultCode} {o : Host.Outcome State Fault Refusal}
    (ho : ¬ c → AnswersOnly s o) : AnswersOnly s (if c then reject rc s else o) :=
  NextSatisfies.of_check rfl ho

/-- The commands that only read, in every state. -/
theorem of_read {i : Instr} {index : Byte}
    (hi : i ∈ [Instr.nop, .crcRead, .rxHdr, .rxLenCrc, .rxBody index, .status]) (s : State) :
    AnswersOnly s (exec i s) := by
  cases i with
  | nop | crcRead | status => exact of_ok rfl _
  | rxHdr | rxLenCrc => exact of_check fun _ => of_ok rfl _
  | rxBody index => exact of_check fun _ => of_check fun _ => of_ok rfl _
  | _ => simp at hi

end AnswersOnly

/-- A request of the level that is requested already changes nothing. -/
theorem requestLine_eq_self {v : LineState} {s : State} (h : s.lineState = v) : requestLine v s = s := if_pos h

theorem requestLine_lineState (v : LineState) (s : State) : (requestLine v s).lineState = v := by
  obtain ⟨hv, heq⟩ | ⟨-, heq⟩ := requestLine_cases v s <;> rw [heq]
  exact hv

theorem clearFlags_clearFlags (mask : BitVec 6) (s : State) :
    clearFlags mask (clearFlags mask s) = clearFlags mask s := by
  simp only [clearFlags, BitVec.and_assoc, BitVec.and_self]

/-- TX_DISCARD stays TX_DISCARD, and the level is unconfirmed already where it was not DISABLED. -/
theorem softReset_softReset (s : State) : softReset (softReset s) = softReset s := by
  have htx : (softReset (softReset s)).txState = (softReset s).txState := by
    simp only [softReset_txState]
    split <;> rfl
  have hline : (softReset (softReset s)).linePending = (softReset s).linePending := Bool.or_false _
  calc softReset (softReset s)
    _ = { softReset s with
          txState := (softReset (softReset s)).txState
          linePending := (softReset (softReset s)).linePending } := rfl
    _ = softReset s := by rw [htx, hline]

/-- A level request, checked and answered, meets the level it asks for or the same failing check when it comes again. -/
theorem AnswersOnly.of_repeated_requestLine {v : LineState} {s t : State}
    (h : (if frameOut s then reject .state s else ok 0 (requestLine v s)) = .next t) :
    AnswersOnly t (if frameOut t then reject .state t else ok 0 (requestLine v t)) := by
  have hfirst : frameOut t = true ∨ t.lineState = v := by
    split at h
    · exact .inl (reject_eq_next.mp h ▸ ‹frameOut s = true›)
    · exact .inr (ok_eq_next.mp h ▸ requestLine_lineState v s)
  exact of_check fun hfree => of_ok (requestLine_eq_self (hfirst.resolve_left hfree)) _

/-- The commands that set a value of their own choice, issued again. -/
theorem AnswersOnly.of_repeated_set {i : Instr} {mask : BitVec 6} {s t : State}
    (hi : i ∈ [Instr.lineEnable, .lineDisable, .clearFlags mask, .crcInit, .softReset]) (h : exec i s = .next t) :
    AnswersOnly t (exec i t) := by
  simp only [List.mem_cons, List.not_mem_nil, or_false] at hi
  obtain rfl | rfl | rfl | rfl | rfl := hi
  · exact of_repeated_requestLine h
  · exact of_repeated_requestLine h
  · rw [ok_eq_next.mp h]
    exact of_ok (congrArg (respond .ok _) (clearFlags_clearFlags mask s)) _
  · rw [ok_eq_next.mp h]
    exact of_ok rfl _
  · rw [ok_eq_next.mp h]
    exact of_ok (congrArg (respond .ok 0) (softReset_softReset s)) _

/-! ## Commands whose second issue is rejected -/

theorem ResultCode.code_eq_zero {rc : ResultCode} : rc.code = 0 ↔ rc = .ok := by
  cases rc <;> simp [ResultCode.code]

/-- The result code is the first byte of a response word (30_encoding.md R76). -/
theorem responseWord_code (rc : ResultCode) (d : Data) : (responseWord rc d).extractLsb' 24 8 = rc.code :=
  BitVec.extractLsb'_append_eq_left

/-- A command that was answered OK had passed its check. -/
theorem check_passed {c : Prop} [Decidable c] {rc : ResultCode} {o : Host.Outcome State Fault Refusal} {s t : State}
    {d : Data} (h : (if c then reject rc s else o) = .next t)
    (hok : t.responses = s.responses ++ [0x00#8 ++ d]) (hrc : rc ≠ .ok) : ¬ c ∧ o = .next t := by
  by_cases hc : c
  · rw [if_pos hc] at h
    rw [reject_eq_next.mp h] at hok
    have hword : responseWord rc 0 = responseWord .ok d := List.singleton_inj.mp (List.append_cancel_left hok)
    have hcode := congrArg (BitVec.extractLsb' 24 8) hword
    rw [responseWord_code, responseWord_code] at hcode
    exact absurd (ResultCode.code_eq_zero.mp hcode) hrc
  · exact ⟨hc, by rwa [if_neg hc] at h⟩

/-- `o` is the outcome of a command rejected in `s` (60_exceptions.md R170). -/
def Rejected (s : State) (o : Host.Outcome State Fault Refusal) : Prop :=
  ∃ rc : ResultCode, rc ≠ .ok ∧ o = reject rc s

theorem Rejected.exists_response {s : State} {o : Host.Outcome State Fault Refusal} (h : Rejected s o) :
    ∃ r : Word, o = .next { s with responses := s.responses ++ [r] } ∧ r.extractLsb' 24 8 ≠ 0 := by
  obtain ⟨rc, hrc, rfl⟩ := h
  refine ⟨responseWord rc 0, rfl, ?_⟩
  rw [responseWord_code]
  exact mt ResultCode.code_eq_zero.mp hrc

theorem exec_rxPop_of_empty {s : State} (h : s.rxValid = false) : exec .rxPop s = reject .empty s := if_pos h

theorem exec_txStart_of_ne_txIdle {s : State} {flags dest cmd : Byte} (h : s.txState ≠ .txIdle)
    (hflags : ¬ (s.cfg.flagsByte = false ∧ flags ≠ 0)) : exec (.txStart flags dest cmd) s = reject .state s :=
  (if_neg hflags).trans (if_pos h)

theorem exec_txEnd_of_ne_txOpen {s : State} (h : s.txState ≠ .txOpen) : exec .txEnd s = reject .state s := if_pos h

theorem exec_txRespDone_of_ne_txWaitResp {s : State} (h : s.txState ≠ .txWaitResp) :
    exec .txRespDone s = reject .state s := if_pos h

/-- A finished frame is never in TX_OPEN. -/
theorem sendOrHold_txState_ne_txOpen (frame : List Byte) (s : State) : (sendOrHold frame s).txState ≠ .txOpen := by
  obtain ⟨-, heq⟩ | ⟨-, heq⟩ := sendOrHold_cases frame s <;> rw [heq] <;> nofun

/-- RX_POP empties the register, TX_START leaves TX_IDLE, TX_END leaves TX_OPEN and TX_RESP_DONE leaves TX_WAIT_RESP:
each takes from itself the state it checks for. -/
theorem Rejected.of_repeated {i : Instr} {flags dest cmd : Byte} {s t : State} {d : Data}
    (hi : i ∈ [Instr.rxPop, .txStart flags dest cmd, .txEnd, .txRespDone]) (h : exec i s = .next t)
    (hok : t.responses = s.responses ++ [0x00#8 ++ d]) : Rejected t (exec i t) := by
  simp only [List.mem_cons, List.not_mem_nil, or_false] at hi
  obtain rfl | rfl | rfl | rfl := hi
  · obtain ⟨-, hdone⟩ := check_passed h hok nofun
    obtain rfl := ok_eq_next.mp hdone
    exact ⟨.empty, nofun, exec_rxPop_of_empty rfl⟩
  · obtain ⟨hflags, hrest⟩ := check_passed h hok nofun
    obtain ⟨-, hdone⟩ := check_passed hrest hok nofun
    obtain rfl := ok_eq_next.mp hdone
    exact ⟨.state, nofun, exec_txStart_of_ne_txIdle nofun hflags⟩
  · obtain ⟨-, hdone⟩ := check_passed h hok nofun
    obtain rfl := ok_eq_next.mp hdone
    exact ⟨.state, nofun, exec_txEnd_of_ne_txOpen (sendOrHold_txState_ne_txOpen _ _)⟩
  · obtain ⟨-, hdone⟩ := check_passed h hok nofun
    obtain rfl := ok_eq_next.mp hdone
    exact ⟨.state, nofun, exec_txRespDone_of_ne_txWaitResp nofun⟩

/-- Settles O55: a read only answers in every state, a set value is in place the second time, and the other four fail
their own check once they have been answered OK. -/
theorem repeatedCommandsFollowTheirRule : Obligations.RepeatedCommandsFollowTheirRule := by
  refine ⟨fun i mask index s t u hi hfirst hsecond => ?_, fun i flags dest cmd s t d hi hfirst hok => ?_⟩
  · obtain hread | hset := List.mem_append.mp
      (show i ∈ [Instr.nop, .crcRead, .rxHdr, .rxLenCrc, .rxBody index, .status] ++ _ from hi)
    · exact AnswersOnly.of_read hread t u hsecond
    · exact AnswersOnly.of_repeated_set hset hfirst u hsecond
  · exact (Rejected.of_repeated hi hfirst hok).exists_response

end Sys2Proof.Machine

/-! The command encoding (30_encoding.md R74 to R81): decoding and encoding as inverses of each other, and the decoder
against the opcode table. -/

namespace Sys2Proof

/-! ## The must-be-zero bits (R75, R79) -/

theorem word4_and_eq_zero {p a b c ma mb mc : Byte} :
    word4 p a b c &&& word4 0 ma mb mc = 0 ↔ a &&& ma = 0 ∧ b &&& mb = 0 ∧ c &&& mc = 0 := by
  rw [word4_and, show (0 : Word) = word4 0 0 0 0 from rfl, word4_inj]
  simp

/-- Where every operand must be zero, the word is its `OP` alone. -/
theorem word4_and_noOperand {p a b c : Byte} :
    word4 p a b c &&& 0x00FFFFFF = 0 ↔ word4 p a b c = word4 p 0 0 0 := by
  rw [show (0x00FFFFFF : Word) = word4 0 0xFF 0xFF 0xFF from rfl, word4_and_eq_zero, word4_inj]
  simp

theorem word4_and_byteOperand {p a b c : Byte} :
    word4 p a b c &&& 0x00FFFF00 = 0 ↔ word4 p a b c = word4 p 0 0 c := by
  rw [show (0x00FFFF00 : Word) = word4 0 0xFF 0xFF 0 from rfl, word4_and_eq_zero, word4_inj]
  simp

theorem word4_and_txStart {cfg : Config} {p a b c : Byte} :
    word4 p a b c &&& Op.txStart.mustBeZero cfg = 0 ↔ cfg.flagsByte = true ∨ a = 0 := by
  have hmask : Op.txStart.mustBeZero cfg = word4 0 (if cfg.flagsByte then 0 else 0xFF) 0 0 := by
    simp only [Op.mustBeZero]
    split <;> rfl
  rw [hmask, word4_and_eq_zero]
  cases cfg.flagsByte <;> simp

/-- A byte whose two high bits are zero is that of its low six bits. -/
theorem and_highBits_eq_zero : ∀ c : Byte, c &&& 0xC0 = 0 ↔ c = (c.extractLsb' 0 6).setWidth 8 := by decide

theorem word4_and_clearFlags {p a b c : Byte} :
    word4 p a b c &&& 0x00FFFFC0 = 0 ↔ word4 p a b c = word4 p 0 0 ((c.extractLsb' 0 6).setWidth 8) := by
  rw [show (0x00FFFFC0 : Word) = word4 0 0xFF 0xFF 0xC0 from rfl, word4_and_eq_zero, and_highBits_eq_zero, word4_inj]
  simp

/-- Among the words with a row's `OP`, those with its must-be-zero bits zero are the words of well-formed commands. -/
theorem and_mustBeZero_eq_zero_iff {cfg : Config} {o : Op} {w : Word} (h : opField w = o.code) :
    w &&& o.mustBeZero cfg = 0 ↔ (o.command w).wellFormed cfg = true ∧ w = encode (o.command w) := by
  obtain ⟨a, b, c, rfl⟩ : ∃ a b c, w = word4 o.code a b c := ⟨_, _, _, h ▸ (word4_fields w).symm⟩
  cases o with
  | crcUpdate | txData | txFill | rxBody =>
    simp only [Op.mustBeZero, word4_and_byteOperand, Op.command, Instr.wellFormed, encode, commandWord_eq_word4,
      cField_word4, true_and]
  | clearFlags =>
    simp only [Op.mustBeZero, word4_and_clearFlags, Op.command, Instr.wellFormed, encode, commandWord_eq_word4,
      cField_word4, true_and]
  | txStart =>
    rw [word4_and_txStart]
    simp [Op.command, Instr.wellFormed, encode, commandWord_eq_word4]
  | _ =>
    simp only [Op.mustBeZero, word4_and_noOperand, Op.command, Instr.wellFormed, encode, commandWord_eq_word4,
      true_and]

/-! ## Decoding and encoding -/

@[simp] theorem opField_encode (i : Instr) : opField (encode i) = i.op.code := by
  cases i <;> exact opField_word4 _ _ _ _

theorem command_encode (i : Instr) : i.op.command (encode i) = i := by
  cases i with
  | crcUpdate | txData | txFill | rxBody => simp [Instr.op, Op.command, encode, commandWord_eq_word4]
  | txStart => simp [Instr.op, Op.command, encode, commandWord_eq_word4]
  | clearFlags mask =>
    have hmask : ∀ m : BitVec 6, (m.setWidth 8).extractLsb' 0 6 = m := by decide
    simp [Instr.op, Op.command, encode, commandWord_eq_word4, hmask]
  | _ => rfl

/-- The words that decode are the words of the well-formed commands, and each decodes to its command. -/
theorem decode_eq_ok_iff_encode {cfg : Config} {w : Word} {i : Instr} :
    decode cfg w = .ok i ↔ i.wellFormed cfg = true ∧ w = encode i := by
  rw [decode_eq_ok]
  constructor
  · rintro ⟨o, hop, hzero, rfl⟩
    exact (and_mustBeZero_eq_zero_iff hop).mp hzero
  · rintro ⟨hwf, rfl⟩
    have hzero := and_mustBeZero_eq_zero_iff (cfg := cfg) (opField_encode i)
    rw [command_encode] at hzero
    exact ⟨i.op, opField_encode i, hzero.mpr ⟨hwf, rfl⟩, (command_encode i).symm⟩

theorem decode_encode {cfg : Config} {i : Instr} (h : i.wellFormed cfg = true) : decode cfg (encode i) = .ok i :=
  decode_eq_ok_iff_encode.mpr ⟨h, rfl⟩

/-- Settles O2. -/
theorem decodeOfEncodeIsTheCommand : Obligations.DecodeOfEncodeIsTheCommand := fun _ _ h => decode_encode h

/-- Settles O3. -/
theorem encodeOfDecodeIsTheWord : Obligations.EncodeOfDecodeIsTheWord :=
  fun _ _ _ h => (decode_eq_ok_iff_encode.mp h).imp_right Eq.symm

/-- Settles O1: the accepted words are those of their commands, each rejected word fails its own check. -/
theorem sampleWordsDecode : Obligations.SampleWordsDecode :=
  ⟨decode_encode (i := .nop) rfl, decode_encode (i := .crcUpdate 0xFE) rfl,
    decode_encode (i := .txStart 0x03 0x02 0xA1) rfl, decode_encode (i := .rxBody 2) rfl,
    decode_encode (i := .lineDisable) rfl, decode_encode (i := .clearFlags 0x3F) rfl, by decide, by decide, by decide⟩

/-! ## The opcode table (R78, R80) -/

/-- The mnemonic of a row. -/
def Op.mnemonic (o : Op) : String := (o.command 0).mnemonic

theorem command_mnemonic (o : Op) (w : Word) : (o.command w).mnemonic = o.mnemonic := by cases o <;> rfl

theorem Op.mem_all (o : Op) : o ∈ Op.all := by cases o <;> decide

theorem Op.mnemonic_inj {o o' : Op} (h : o.mnemonic = o'.mnemonic) : o = o' :=
  List.inj_on_of_nodup_map (show (Op.all.map Op.mnemonic).Nodup by decide) o.mem_all o'.mem_all h

/-- The row of the opcode table of an `OP` value: the pattern has the operands zero, the mask is the `OP` field and the
must-be-zero bits. -/
def Op.row (cfg : Config) (o : Op) : OpcodeRow :=
  ⟨o.mnemonic, word4 o.code 0 0 0, word4 0xFF 0 0 0 ||| o.mustBeZero cfg⟩

theorem opcodeTable_eq (cfg : Config) : opcodeTable cfg = Op.all.map (Op.row cfg) := by
  obtain ⟨flagsByte, maxBody⟩ := cfg
  cases flagsByte <;> simp only [Op.all, List.map, Op.row, Op.mustBeZero, Bool.false_eq_true, if_false] <;> rfl

/-- The must-be-zero bits of a row are operand bits. -/
theorem mustBeZero_eq_word4 (cfg : Config) (o : Op) : ∃ ma mb mc, o.mustBeZero cfg = word4 0 ma mb mc := by
  cases o with
  | crcUpdate | txData | txFill | rxBody => exact ⟨0xFF, 0xFF, 0, rfl⟩
  | clearFlags => exact ⟨0xFF, 0xFF, 0xC0, rfl⟩
  | txStart =>
    simp only [Op.mustBeZero]
    split
    · exact ⟨0, 0, 0, rfl⟩
    · exact ⟨0xFF, 0, 0, rfl⟩
  | _ => exact ⟨0xFF, 0xFF, 0xFF, rfl⟩

theorem word4_or (p a b c p' a' b' c' : Byte) :
    word4 p a b c ||| word4 p' a' b' c' = word4 (p ||| p') (a ||| a') (b ||| b') (c ||| c') := by
  have h3 : (p ++ a ++ b) ||| (p' ++ a' ++ b') = (p ||| p') ++ (a ||| a') ++ (b ||| b') := by
    rw [BitVec.or_append, BitVec.or_append]
  have h4 : (p ++ a ++ b ++ c) ||| (p' ++ a' ++ b' ++ c') =
      ((p ++ a ++ b) ||| (p' ++ a' ++ b')) ++ (c ||| c') := BitVec.or_append
  exact h4.trans (congrArg (· ++ (c ||| c')) h3)

/-- A word agrees with a row when its `OP` is the row's and the row's must-be-zero bits are zero. -/
theorem matches_row_iff {cfg : Config} {o : Op} {w : Word} :
    w &&& (o.row cfg).mask = (o.row cfg).pattern ↔ opField w = o.code ∧ w &&& o.mustBeZero cfg = 0 := by
  obtain ⟨ma, mb, mc, hmask⟩ := mustBeZero_eq_word4 cfg o
  obtain ⟨p, a, b, c, rfl⟩ : ∃ p a b c, w = word4 p a b c := ⟨_, _, _, _, (word4_fields w).symm⟩
  have hrow : word4 0xFF 0 0 0 ||| word4 0 ma mb mc = word4 0xFF ma mb mc := by
    rw [word4_or]
    simp
  rw [hmask, word4_and_eq_zero, opField_word4]
  simp only [Op.row, hmask, hrow, word4_and, word4_inj]
  simp

/-- The row of the table that a decoded word agrees with is its command's. -/
theorem matches_row_iff_decode {cfg : Config} {o : Op} {w : Word} :
    w &&& (o.row cfg).mask = (o.row cfg).pattern ↔ ∃ i, decode cfg w = .ok i ∧ i.mnemonic = o.mnemonic := by
  rw [matches_row_iff]
  constructor
  · rintro ⟨hop, hzero⟩
    exact ⟨_, decode_eq_ok.mpr ⟨o, hop, hzero, rfl⟩, command_mnemonic o w⟩
  · rintro ⟨i, hdecode, hname⟩
    obtain ⟨o', hop, hzero, rfl⟩ := decode_eq_ok.mp hdecode
    obtain rfl := Op.mnemonic_inj ((command_mnemonic o' w).symm.trans hname)
    exact ⟨hop, hzero⟩

/-- Settles O4, row by row. -/
theorem decodeFollowsTheOpcodeTable : Obligations.DecodeFollowsTheOpcodeTable := by
  intro cfg w row hrow
  rw [opcodeTable_eq] at hrow
  obtain ⟨o, -, rfl⟩ := List.mem_map.mp hrow
  exact matches_row_iff_decode

/-- A word of no row is no command (R81). -/
theorem decode_of_no_row {cfg : Config} {w : Word}
    (h : ∀ row ∈ opcodeTable cfg, w &&& row.mask ≠ row.pattern) : ∃ e, decode cfg w = .error e := by
  cases hd : decode cfg w with
  | error e => exact ⟨e, rfl⟩
  | ok i =>
    obtain ⟨o, hop, hzero, -⟩ := decode_eq_ok.mp hd
    have hmem : o.row cfg ∈ opcodeTable cfg := opcodeTable_eq cfg ▸ List.mem_map_of_mem o.mem_all
    exact absurd (matches_row_iff.mpr ⟨hop, hzero⟩) (h _ hmem)

end Sys2Proof

/-! Every step is answered (30_encoding.md R76, 60_exceptions.md R170, R186): the outcome of a command is a completed
effect or a rejection, with one response word either way. -/

namespace Sys2Proof.Machine

/-- Settles O6: a word of no row does not decode. -/
theorem stepRejectsReservedWords : Obligations.StepRejectsReservedWords := by
  intro s w rest hinputs hrows
  obtain ⟨e, hdecode⟩ := decode_of_no_row hrows
  exact (step_command hinputs).trans (runWord_error hdecode)

/-- Settles O7, by the step's own equations. -/
theorem stepRunsTheEvent : Obligations.StepRunsTheEvent :=
  ⟨fun _ _ _ h => step_event h, fun _ h => step_nil h⟩

/-! ## The outcome of a command -/

/-- `o` ends a command issued in `s`: with OK and some effect that neither takes an input nor answers, or by a
rejection. -/
def Completed (s : State) (o : Host.Outcome State Fault Refusal) : Prop :=
  (∃ d u, o = ok d u ∧ u.inputs = s.inputs ∧ u.responses = s.responses) ∨ Rejected s o

namespace Completed

variable {s : State}

theorem of_ok {u : State} (d : Data) (hin : u.inputs = s.inputs) (hresp : u.responses = s.responses) :
    Completed s (ok d u) := .inl ⟨d, u, rfl, hin, hresp⟩

theorem of_encoderFrame {u : State} (d : Data) (h : EncoderFrame s u) : Completed s (ok d u) :=
  of_ok d (by rw [h]) (by rw [h])

theorem of_check {c : Prop} [Decidable c] {rc : ResultCode} {o : Host.Outcome State Fault Refusal}
    (h : Completed s o) (hrc : rc ≠ .ok := by nofun) : Completed s (if c then reject rc s else o) := by
  split
  · exact .inr ⟨rc, hrc, rfl⟩
  · exact h

theorem of_exec (i : Instr) (s : State) : Completed s (exec i s) := by
  cases i with
  | nop | crcInit | crcUpdate | crcRead | status | clearFlags | softReset => exact of_ok _ rfl rfl
  | txStart | txData | txFill | rxBody => exact of_check (of_check (of_ok _ rfl rfl))
  | txRespDone | rxHdr | rxLenCrc | rxPop => exact of_check (of_ok _ rfl rfl)
  | txEnd =>
    have hframe := sendOrHold_frame (wireFrame (txLogical s))
      { s with txResp := s.cfg.flagsByte && s.txFlags.getLsbD 1 }
    exact of_check (of_encoderFrame _ hframe)
  | lineEnable | lineDisable => exact of_check (of_encoderFrame _ (requestLine_frame _ s))

theorem of_runWord (w : Word) (s : State) : Completed s (runWord w s) := by
  cases hd : decode s.cfg w with
  | ok i => rw [runWord_ok hd]; exact of_exec i s
  | error e => rw [runWord_error hd]; exact .inr ⟨.reserved, nofun, rfl⟩

/-- A completed command has a next state, which has the inputs of the old one and one response more. -/
theorem exists_next {o : Host.Outcome State Fault Refusal} (h : Completed s o) :
    ∃ t, o = .next t ∧ t.inputs = s.inputs ∧ ∃ r, t.responses = s.responses ++ [r] := by
  obtain ⟨d, u, rfl, hin, hresp⟩ | ⟨rc, -, rfl⟩ := h
  · exact ⟨_, rfl, hin, _, by rw [respond_responses, hresp]⟩
  · exact ⟨_, rfl, rfl, _, rfl⟩

end Completed

theorem responseWord_data (rc : ResultCode) (d : Data) : (responseWord rc d).extractLsb' 0 24 = d :=
  BitVec.extractLsb'_append_eq_right

/-- Settles O54: a completed effect answers OK, and a rejection only answers. -/
theorem rejectionChangesNothing : Obligations.RejectionChangesNothing := by
  intro i s t ht
  obtain ⟨d, u, heq, -, hresp⟩ | ⟨rc, -, heq⟩ := Completed.of_exec i s
  · obtain rfl := ok_eq_next.mp (heq.symm.trans ht)
    refine ⟨responseWord .ok d, by rw [respond_responses, hresp], fun hcode => ?_⟩
    rw [responseWord_code] at hcode
    exact absurd rfl hcode
  · obtain rfl := reject_eq_next.mp (heq.symm.trans ht)
    exact ⟨responseWord rc 0, rfl, fun _ => ⟨responseWord_data rc 0, rfl⟩⟩

/-! ## The outcome of a step -/

theorem applyEvent_inputs (e : Event) (s : State) : (applyEvent e s).inputs = s.inputs := by
  cases e with
  | rxByte b => rw [applyEvent, rxByte_frame b s]
  | rxTimeout => rw [applyEvent, rxTimeout_frame s]
  | txDrain => rw [applyEvent, txDrain_frame s]
  | lineConfirm v => rw [applyEvent, lineConfirm_frame v s]

theorem applyEvent_responses (e : Event) (s : State) : (applyEvent e s).responses = s.responses := by
  cases e with
  | rxByte b => rw [applyEvent, rxByte_frame b s]
  | rxTimeout => rw [applyEvent, rxTimeout_frame s]
  | txDrain => rw [applyEvent, txDrain_frame s]
  | lineConfirm v => rw [applyEvent, lineConfirm_frame v s]

/-- Settles O8, by the kind of the next input. -/
theorem everyInputIsAnswered : Obligations.EveryInputIsAnswered := by
  intro s
  match hs : s.inputs with
  | [] => exact ⟨s, step_nil hs, hs, nofun, nofun⟩
  | .command w :: rest =>
    obtain ⟨t, ht, hin, hresp⟩ := (Completed.of_runWord w { s with inputs := rest }).exists_next
    exact ⟨t, (step_command hs).trans ht, hin, fun _ _ _ => hresp, nofun⟩
  | .event e :: rest =>
    exact ⟨_, step_event hs, applyEvent_inputs e _, nofun, fun _ _ _ => applyEvent_responses e _⟩

end Sys2Proof.Machine

/-! Byte-stuffing (30_encoding.md R68, R69) and the length of a wire frame (R73). -/

namespace Sys2Proof.Machine

theorem marker_notMem_stuff1 (b : Byte) : 0xFF ∉ stuff1 b := by
  obtain ⟨-, heq⟩ | ⟨-, heq⟩ | ⟨-, hFF, heq⟩ := stuff1_cases b <;> rw [heq]
  · decide
  · decide
  · simpa using hFF.symm

theorem marker_notMem_stuff (xs : List Byte) : 0xFF ∉ stuff xs := by
  intro hmem
  obtain ⟨b, -, hb⟩ := List.mem_flatMap.mp hmem
  exact marker_notMem_stuff1 b hb

/-- After an escape byte comes one of the two substitutes (R69). -/
theorem stuff_escape_next (xs : List Byte) (i : Nat) (hi : (stuff xs)[i]? = some 0xFE) :
    (stuff xs)[i + 1]? = some 0x00 ∨ (stuff xs)[i + 1]? = some 0x01 := by
  induction xs generalizing i with
  | nil => simp at hi
  | cons b xs ih =>
    rw [stuff_cons] at hi ⊢
    obtain ⟨-, heq⟩ | ⟨-, heq⟩ | ⟨hFE, -, heq⟩ := stuff1_cases b <;> rw [heq] at hi ⊢
    · match i with
      | 0 => exact .inl rfl
      | 1 => simp at hi
      | i + 2 => exact ih i hi
    · match i with
      | 0 => exact .inr rfl
      | 1 => simp at hi
      | i + 2 => exact ih i hi
    · match i with
      | 0 => exact absurd (Option.some.inj hi) hFE
      | i + 1 => exact ih i hi

theorem stuff1_length (b : Byte) : (stuff1 b).length = if b == 0xFE || b == 0xFF then 2 else 1 := by
  obtain ⟨rfl, heq⟩ | ⟨rfl, heq⟩ | ⟨hFE, hFF, heq⟩ := stuff1_cases b <;> rw [heq]
  · rfl
  · rfl
  · rw [beq_false_of_ne hFE, beq_false_of_ne hFF]
    rfl

theorem stuff_length (xs : List Byte) :
    (stuff xs).length = xs.length + (xs.filter fun b => b == 0xFE || b == 0xFF).length := by
  induction xs with
  | nil => rfl
  | cons b xs ih =>
    rw [stuff_cons, List.length_append, ih, stuff1_length, List.filter_cons]
    split <;> simp only [List.length_cons] <;> omega

/-- Settles O27. -/
theorem stuffedBytesHoldNoMarker : Obligations.StuffedBytesHoldNoMarker :=
  fun xs => ⟨marker_notMem_stuff xs, stuff_escape_next xs, stuff_length xs⟩

/-- The wire bytes determine the first logical byte and where its wire form ends. -/
theorem stuff1_append_inj {a b : Byte} {xs ys : List Byte} (h : stuff1 a ++ xs = stuff1 b ++ ys) :
    a = b ∧ xs = ys := by
  obtain ⟨rfl, ha⟩ | ⟨rfl, ha⟩ | ⟨haFE, -, ha⟩ := stuff1_cases a <;>
    obtain ⟨rfl, hb⟩ | ⟨rfl, hb⟩ | ⟨hbFE, -, hb⟩ := stuff1_cases b <;> simp only [ha, hb] at h <;> simp_all

theorem stuff1_ne_nil (b : Byte) : stuff1 b ≠ [] := by
  obtain ⟨-, heq⟩ | ⟨-, heq⟩ | ⟨-, -, heq⟩ := stuff1_cases b <;> rw [heq] <;> nofun

theorem stuff_injective : Function.Injective stuff := by
  intro xs ys h
  induction xs generalizing ys with
  | nil =>
    cases ys with
    | nil => rfl
    | cons b ys => simp [stuff1_ne_nil] at h
  | cons a xs ih =>
    cases ys with
    | nil => simp [stuff1_ne_nil] at h
    | cons b ys =>
      obtain ⟨rfl, hrest⟩ := stuff1_append_inj (by simpa using h)
      rw [ih hrest]

/-- Settles O28. -/
theorem stuffingLosesNothing : Obligations.StuffingLosesNothing := fun _ _ h => stuff_injective h

/-! ## The length of a wire frame -/

theorem length_le_stuff_length (xs : List Byte) : xs.length ≤ (stuff xs).length := by
  rw [stuff_length]
  exact Nat.le_add_right _ _

theorem stuff_length_le (xs : List Byte) : (stuff xs).length ≤ 2 * xs.length := by
  have hfilter := List.length_filter_le (fun b : Byte => b == 0xFE || b == 0xFF) xs
  rw [stuff_length]
  omega

theorem logicalBytes_length (cfg : Config) (flags dest cmd len : Byte) (body : List Byte) :
    (logicalBytes cfg flags dest cmd len body).length = headerCount cfg + body.length := by
  unfold logicalBytes headerCount
  split <;> simp <;> omega

/-- The marker is not stuffed, and every other byte of the frame becomes one wire byte or two. -/
theorem wireFrame_length_bounds (lg : List Byte) :
    2 + (lg.length + 2) ≤ (wireFrame lg).length ∧ (wireFrame lg).length ≤ 2 + 2 * (lg.length + 2) := by
  have hlower := length_le_stuff_length (lg ++ [crcHi (crc16 lg), crcLo (crc16 lg)])
  have hupper := stuff_length_le (lg ++ [crcHi (crc16 lg), crcLo (crc16 lg)])
  rw [List.length_append] at hlower hupper
  rw [wireFrame, List.length_append]
  exact ⟨Nat.add_le_add_left hlower 2, Nat.add_le_add_left hupper 2⟩

/-- Settles O29, with the number of logical bytes as the header count and the body's length. -/
theorem wireFrameLengthBounds : Obligations.WireFrameLengthBounds := by
  intro cfg flags dest cmd len body h wire
  have hcount : h = headerCount cfg ∧ h ≤ 4 := ⟨rfl, by simp only [h]; split <;> decide⟩
  obtain ⟨hlower, hupper⟩ := wireFrame_length_bounds (logicalBytes cfg flags dest cmd len body)
  rw [logicalBytes_length] at hlower hupper
  exact ⟨by omega, by omega, fun hbody => by omega⟩

end Sys2Proof.Machine

/-! Runs of several steps: the host's commands in order, and CRC_BLOCK (30_encoding.md R85). -/

namespace Sys2Proof.Machine

/-! ## Runs -/

theorem run_step {n : Nat} {s t : State} (h : step s = .next t) :
    Host.Core.run Sys2Proof.core (n + 1) s = Host.Core.run Sys2Proof.core n t := by
  simp only [Host.Core.run, show Sys2Proof.core.step s = .next t from h]

/-- A run goes on where a shorter one ends. -/
theorem run_add {m n : Nat} {s t : State} (h : Host.Core.run Sys2Proof.core m s = .next t) :
    Host.Core.run Sys2Proof.core (m + n) s = Host.Core.run Sys2Proof.core n t := by
  induction m generalizing s with
  | zero => rw [Nat.zero_add, Host.Outcome.next.inj h]
  | succ m ih =>
    obtain ⟨u, hu, hrest⟩ := run_succ_eq_next.mp h
    rw [Nat.succ_add]
    exact (run_step hu).trans (ih hrest)

/-- A run that begins with the host's step with a well-formed command. -/
theorem run_command {n : Nat} {s u : State} {i : Instr} {rest : List Input}
    (hinputs : s.inputs = .command (encode i) :: rest) (hwf : i.wellFormed s.cfg = true)
    (hexec : exec i { s with inputs := rest } = .next u) :
    Host.Core.run Sys2Proof.core (n + 1) s = Host.Core.run Sys2Proof.core n u :=
  run_step (by rw [step_command hinputs, ← hexec]; exact runWord_ok (decode_encode hwf))

/-! ## CRC_BLOCK -/

/-- An OK response with a CRC is the CRC as a word (R76, 42_crc_engine.md R149). -/
theorem responseWord_ok_crc (c : Crc) : responseWord .ok (zext24 c) = c.setWidth 32 := by
  apply BitVec.eq_of_toNat_eq
  have hc := c.isLt
  rw [responseWord, BitVec.toNat_append]
  simp only [zext24, BitVec.toNat_setWidth]
  simp [ResultCode.code]
  omega

/-- CRC_UPDATE over a list of bytes. -/
theorem run_crcUpdates (xs : List Byte) {s : State} {rest : List Input}
    (hinputs : s.inputs = commandInputs (xs.map .crcUpdate) ++ rest) :
    ∃ rs : List Word, rs.length = xs.length ∧ Host.Core.run Sys2Proof.core xs.length s = .next { s with
      inputs := rest
      crcAcc := xs.foldl crc16Step s.crcAcc
      responses := s.responses ++ rs } := by
  induction xs generalizing s with
  | nil =>
    obtain rfl : s.inputs = rest := hinputs
    exact ⟨[], rfl, by simp [Host.Core.run]⟩
  | cons b xs ih =>
    have hfirst := run_command (n := xs.length) (i := .crcUpdate b) hinputs rfl rfl
    obtain ⟨rs, hlen, hrest⟩ := ih (s := respond .ok (zext24 (crc16Step s.crcAcc b))
      { s with inputs := commandInputs (xs.map .crcUpdate) ++ rest, crcAcc := crc16Step s.crcAcc b }) rfl
    exact ⟨responseWord .ok (zext24 (crc16Step s.crcAcc b)) :: rs, congrArg (· + 1) hlen,
      hfirst.trans (hrest.trans (by simp [respond]))⟩

/-- Settles O18, as the run of its first command, of its bytes and of its last command. -/
theorem crcBlockFoldsTheBytes : Obligations.CrcBlockFoldsTheBytes := by
  intro s xs rest hinputs
  have hinputs' : s.inputs = .command (encode .crcInit) ::
      (commandInputs (xs.map .crcUpdate) ++ .command (encode .crcRead) :: rest) := by
    simpa [crcBlock, commandInputs] using hinputs
  have hinit := run_command (n := xs.length + 1) hinputs' rfl rfl
  obtain ⟨rs, hlen, hbytes⟩ := run_crcUpdates xs (s := respond .ok 0 { s with
    inputs := commandInputs (xs.map .crcUpdate) ++ .command (encode .crcRead) :: rest, crcAcc := crcInitial }) rfl
  have hread := (run_add (n := 1) hbytes).trans (run_command (i := .crcRead) rfl rfl rfl)
  refine ⟨responseWord .ok 0 :: rs, congrArg (· + 1) hlen, hinit.trans (hread.trans ?_)⟩
  simp [Host.Core.run, respond, responseWord_ok_crc, crc16]

end Sys2Proof.Machine

/-! A frame received (40_frame_decoder.md R117): a list of received bytes as one function of the state, the start marker
from any good state, then the header, the body and the CRC of a good message. -/

namespace Sys2Proof.Machine

/-! ## A received byte by the decoder's state (R100, R105) -/

theorem logicalByte_header {s : State} (hs : s.rxState = .header) (v : Byte) : logicalByte v s = headerByte v s := by
  simp only [logicalByte, hs]

theorem logicalByte_body {s : State} (hs : s.rxState = .body) (v : Byte) : logicalByte v s = bodyByte v s := by
  simp only [logicalByte, hs]

theorem logicalByte_crc {s : State} (hs : s.rxState = .crc) (v : Byte) : logicalByte v s = crcByte v s := by
  simp only [logicalByte, hs]

theorem rxByte_inFrame {s : State} (hs : s.rxState.inFrame = true) (b : Byte) : rxByte b s = inFrame b s := by
  cases h : s.rxState <;> simp_all [rxByte, RxState.inFrame]

theorem rxByte_waitSom2 {s : State} (hs : s.rxState = .waitSom2) (b : Byte) : rxByte b s = secondMarker b s := by
  simp only [rxByte, hs]

theorem rxByte_outside {s : State} (hs : s.rxState.inFrame = false) (hs' : s.rxState ≠ .waitSom2) (b : Byte) :
    rxByte b s = outsideFrame b s := by
  cases h : s.rxState <;> simp_all [rxByte, RxState.inFrame]

/-! ## Received bytes in order -/

theorem afterLength_withInputs (v : Byte) (s : State) (is : List Input) :
    afterLength v { s with inputs := is } = { afterLength v s with inputs := is } := by
  unfold afterLength
  split_ifs <;> rfl

theorem headerByte_withInputs (v : Byte) (s : State) (is : List Input) :
    headerByte v { s with inputs := is } = { headerByte v s with inputs := is } := by
  have htaken : headerTaken v { s with inputs := is } = { headerTaken v s with inputs := is } := by
    simp only [headerTaken, setHeaderField_eq]
  simp only [headerByte_eq, htaken, afterLength_withInputs]
  split <;> rfl

theorem bodyByte_withInputs (v : Byte) (s : State) (is : List Input) :
    bodyByte v { s with inputs := is } = { bodyByte v s with inputs := is } := by
  unfold bodyByte
  simp only
  split <;> rfl

theorem crcByte_withInputs (v : Byte) (s : State) (is : List Input) :
    crcByte v { s with inputs := is } = { crcByte v s with inputs := is } := by
  unfold crcByte complete
  split_ifs <;> rfl

theorem logicalByte_withInputs (v : Byte) (s : State) (is : List Input) :
    logicalByte v { s with inputs := is } = { logicalByte v s with inputs := is } := by
  simp only [logicalByte]
  split
  · exact headerByte_withInputs v s is
  · exact bodyByte_withInputs v s is
  · exact crcByte_withInputs v s is
  all_goals rfl

theorem inFrame_withInputs (b : Byte) (s : State) (is : List Input) :
    inFrame b { s with inputs := is } = { inFrame b s with inputs := is } := by
  have hlogical (v : Byte) (esc : Bool) :
      logicalByte v { s with rxEsc := esc, inputs := is } =
        { logicalByte v { s with rxEsc := esc } with inputs := is } :=
    logicalByte_withInputs v { s with rxEsc := esc } is
  unfold inFrame inFrameMarker escaped
  simp only [hlogical, logicalByte_withInputs]
  split_ifs <;> rfl

/-- A received byte does not depend on what is still to come. -/
theorem rxByte_withInputs (b : Byte) (s : State) (is : List Input) :
    rxByte b { s with inputs := is } = { rxByte b s with inputs := is } := by
  by_cases hin : s.rxState.inFrame = true
  · rw [rxByte_inFrame hin, rxByte_inFrame (s := { s with inputs := is }) hin, inFrame_withInputs]
  by_cases hsom : s.rxState = .waitSom2
  · rw [rxByte_waitSom2 hsom, rxByte_waitSom2 (s := { s with inputs := is }) hsom]
    unfold secondMarker
    split <;> rfl
  · have hout := Bool.eq_false_iff.mpr hin
    rw [rxByte_outside hout hsom, rxByte_outside (s := { s with inputs := is }) hout hsom]
    rfl

/-- The bytes `xs` received in order. -/
def rxBytes (xs : List Byte) (s : State) : State := xs.foldl (fun t b => rxByte b t) s

@[simp] theorem rxBytes_nil (s : State) : rxBytes [] s = s := rfl

@[simp] theorem rxBytes_cons (b : Byte) (xs : List Byte) (s : State) :
    rxBytes (b :: xs) s = rxBytes xs (rxByte b s) := rfl

theorem rxBytes_append (xs ys : List Byte) (s : State) : rxBytes (xs ++ ys) s = rxBytes ys (rxBytes xs s) :=
  List.foldl_append

theorem rxBytes_withInputs (xs : List Byte) (s : State) (is : List Input) :
    rxBytes xs { s with inputs := is } = { rxBytes xs s with inputs := is } := by
  induction xs generalizing s with
  | nil => rfl
  | cons b xs ih => rw [rxBytes_cons, rxByte_withInputs, ih, rxBytes_cons]

/-- A run over received bytes is their function on the state. -/
theorem run_rxInputs (xs : List Byte) {s : State} {rest : List Input} (hinputs : s.inputs = rxInputs xs ++ rest) :
    Host.Core.run Sys2Proof.core xs.length s = .next { rxBytes xs s with inputs := rest } := by
  induction xs generalizing s with
  | nil =>
    obtain rfl : s.inputs = rest := hinputs
    rfl
  | cons b xs ih =>
    have hfirst : step s = .next { rxByte b s with inputs := rxInputs xs ++ rest } := by
      rw [← rxByte_withInputs]
      exact step_event hinputs
    rw [List.length_cons, run_step hfirst, ih rfl, rxBytes_withInputs]
    rfl

/-! ## The start marker -/

/-- A frame has begun and no byte of it has been taken (R103, R106). -/
structure AtFrameStart (s : State) : Prop where
  rxState : s.rxState = .header
  rxEsc   : s.rxEsc = false
  rxHidx  : s.rxHidx = 0
  rxCrc   : s.rxCrc = crcInitial
  rxBody  : s.rxBody = []
  rxFlags : s.cfg.flagsByte = false → s.rxFlags = 0

theorem AtFrameStart.of_startFrame (s : State) : AtFrameStart (startFrame s) :=
  ⟨rfl, rfl, rfl, rfl, rfl, fun _ => rfl⟩

/-- In a good state the first header byte is awaited only at a frame's start. -/
theorem DecoderInv.atFrameStart {s : State} (h : DecoderInv s) (hs : s.rxState = .header) (hidx : s.rxHidx = 0)
    (hesc : s.rxEsc = false) : AtFrameStart s := by
  obtain ⟨-, hbody, -⟩ := h.in_header hs
  have hcrc := h.crc_running (by rw [hs]; rfl)
  rw [rxTaken, hidx, hbody] at hcrc
  exact ⟨hs, hesc, hidx, hcrc, hbody, h.flags_zero⟩

theorem rxByte_marker_outside {s : State} (hs : s.rxState.inFrame = false) (hs' : s.rxState ≠ .waitSom2) :
    rxByte 0xFF s = { s with rxState := .waitSom2 } := by
  rw [rxByte_outside hs hs']
  rfl

theorem rxByte_marker_waitSom2 {s : State} (hs : s.rxState = .waitSom2) : rxByte 0xFF s = startFrame s := by
  rw [rxByte_waitSom2 hs]
  rfl

/-- A marker run before the first header byte is skipped (R103). -/
theorem rxByte_marker_atFrameStart {s : State} (h : AtFrameStart s) : rxByte 0xFF s = s := by
  obtain ⟨hs, hesc, hidx, -, -, -⟩ := h
  rw [rxByte_inFrame (by rw [hs]; rfl)]
  simp [inFrame, inFrameMarker, hs, hesc, hidx]

/-- Any other marker byte inside a frame re-arms (R103). -/
theorem rxByte_marker_inFrame {s : State} (hs : s.rxState.inFrame = true)
    (h : ¬ (s.rxState = .header ∧ s.rxHidx = 0 ∧ s.rxEsc = false)) :
    rxByte 0xFF s = { setFlag .rearm s with rxEsc := false, rxState := .waitSom2 } := by
  rw [rxByte_inFrame hs, inFrame, if_pos rfl, inFrameMarker, if_neg h]

theorem setFlag_rearm_getLsbD (s : State) : (setFlag .rearm s).rxErr.getLsbD 3 = true := by
  simp [RxFlag.bit]

/-- From any good state the marker begins a frame, keeps the message register, and sets REARM if it cuts a frame off
(R101 to R103, R106). -/
theorem rxBytes_marker {s : State} (h : DecoderInv s) : ∃ t, rxBytes [0xFF, 0xFF] s = t ∧ AtFrameStart t ∧
    t.cfg = s.cfg ∧ t.rxValid = s.rxValid ∧ t.rxMsg = s.rxMsg ∧
    (s.rxState.inFrame = true → ¬ (s.rxState = .header ∧ s.rxHidx = 0 ∧ s.rxEsc = false) →
      t.rxErr.getLsbD 3 = true) := by
  simp only [rxBytes_cons, rxBytes_nil]
  by_cases hin : s.rxState.inFrame = true
  · by_cases hstart : s.rxState = .header ∧ s.rxHidx = 0 ∧ s.rxEsc = false
    · obtain ⟨hs, hidx, hesc⟩ := id hstart
      have hat := h.atFrameStart hs hidx hesc
      rw [rxByte_marker_atFrameStart hat, rxByte_marker_atFrameStart hat]
      exact ⟨s, rfl, hat, rfl, rfl, rfl, fun _ hcut => absurd hstart hcut⟩
    · rw [rxByte_marker_inFrame hin hstart, rxByte_marker_waitSom2 rfl]
      exact ⟨_, rfl, .of_startFrame _, rfl, rfl, rfl, fun _ _ => setFlag_rearm_getLsbD s⟩
  · by_cases hsom : s.rxState = .waitSom2
    · rw [rxByte_marker_waitSom2 hsom, rxByte_marker_atFrameStart (.of_startFrame s)]
      exact ⟨_, rfl, .of_startFrame s, rfl, rfl, rfl, fun hin' => absurd hin' hin⟩
    · rw [rxByte_marker_outside (Bool.eq_false_iff.mpr hin) hsom, rxByte_marker_waitSom2 rfl]
      exact ⟨_, rfl, .of_startFrame _, rfl, rfl, rfl, fun hin' => absurd hin' hin⟩

/-! ## Header, body and CRC -/

/-- A stuffed byte in a frame is one logical byte (R104, R105). -/
theorem rxBytes_stuff1 {s : State} (hs : s.rxState.inFrame = true) (hesc : s.rxEsc = false) (v : Byte) :
    rxBytes (stuff1 v) s = logicalByte v s := by
  have hescape : rxByte 0xFE s = { s with rxEsc := true } := by
    rw [rxByte_inFrame hs]
    simp [inFrame, hesc]
  have hclear : { s with rxEsc := false } = s := by rw [← hesc]
  obtain ⟨rfl, heq⟩ | ⟨rfl, heq⟩ | ⟨hFE, hFF, heq⟩ := stuff1_cases v <;> rw [heq]
  · rw [rxBytes_cons, rxBytes_cons, rxBytes_nil, hescape, rxByte_inFrame (s := { s with rxEsc := true }) hs]
    simp [inFrame, escaped, hclear]
  · rw [rxBytes_cons, rxBytes_cons, rxBytes_nil, hescape, rxByte_inFrame (s := { s with rxEsc := true }) hs]
    simp [inFrame, escaped, hclear]
  · rw [rxBytes_cons, rxBytes_nil, rxByte_inFrame hs]
    rw [inFrame, if_neg hFF, if_neg (Bool.eq_false_iff.mp hesc), if_neg hFE]

theorem rxBytes_stuff_cons {s : State} (hs : s.rxState.inFrame = true) (hesc : s.rxEsc = false) (v : Byte)
    (vs : List Byte) : rxBytes (stuff (v :: vs)) s = rxBytes (stuff vs) (logicalByte v s) := by
  rw [stuff_cons, rxBytes_append, rxBytes_stuff1 hs hesc]

theorem headerField_succ (cfg : Config) (i : Nat) : headerField cfg (i + 1) = headerField cfg i + 1 := by
  unfold headerField
  split <;> rfl

/-- A header byte before the length (R107). -/
theorem rxBytes_stuff_field {s : State} {k : Nat} {v : Byte} {vs : List Byte} (hs : s.rxState = .header)
    (hesc : s.rxEsc = false) (hk : headerField s.cfg s.rxHidx = k) (hne : k ≠ 3) :
    rxBytes (stuff (v :: vs)) s = rxBytes (stuff vs)
      (setHeaderField k v { s with rxCrc := crc16Step s.rxCrc v, rxHidx := s.rxHidx + 1 }) := by
  rw [rxBytes_stuff_cons (by rw [hs]; rfl) hesc, logicalByte_header hs, headerByte]
  simp only [hk, if_neg hne]

/-- The length byte (R107). -/
theorem rxBytes_stuff_length {s : State} {len : Byte} (hs : s.rxState = .header) (hesc : s.rxEsc = false)
    (hk : headerField s.cfg s.rxHidx = 3) :
    rxBytes (stuff [len]) s = afterLength len
      { s with rxCrc := crc16Step s.rxCrc len, rxHidx := s.rxHidx + 1, rxLen := len } := by
  rw [rxBytes_stuff_cons (by rw [hs]; rfl) hesc, logicalByte_header hs, headerByte, stuff_nil, rxBytes_nil]
  simp only [hk, if_true]
  rfl

/-- Destination, command and length, which the header of either revision ends with (R107). -/
theorem rxBytes_stuff_address {s : State} {dest cmd len : Byte} (hs : s.rxState = .header) (hesc : s.rxEsc = false)
    (hk : headerField s.cfg s.rxHidx = 1) :
    rxBytes (stuff [dest, cmd, len]) s = afterLength len { s with
      rxHidx := s.rxHidx + 3
      rxDest := dest
      rxCmd := cmd
      rxLen := len
      rxCrc := [dest, cmd, len].foldl crc16Step s.rxCrc } := by
  have hk2 : headerField s.cfg (s.rxHidx + 1) = 2 := by rw [headerField_succ, hk]
  have hk3 : headerField s.cfg (s.rxHidx + 2) = 3 := by rw [headerField_succ, hk2]
  rw [rxBytes_stuff_field hs hesc hk (by decide),
    rxBytes_stuff_field (by exact hs) (by exact hesc) (by exact hk2) (by decide),
    rxBytes_stuff_length (by exact hs) (by exact hesc) (by exact hk3)]
  rfl

/-- The header of a message, taken from a frame's start. -/
theorem rxBytes_stuff_header {s : State} (h : AtFrameStart s) {flags dest cmd len : Byte}
    (hflags : s.cfg.flagsByte = false → flags = 0) :
    rxBytes (stuff (logicalBytes s.cfg flags dest cmd len [])) s = afterLength len { s with
      rxHidx := headerCount s.cfg
      rxFlags := flags
      rxDest := dest
      rxCmd := cmd
      rxLen := len
      rxCrc := crc16 (logicalBytes s.cfg flags dest cmd len []) } := by
  obtain ⟨hs, hesc, hidx, hcrc, hbody, hzero⟩ := h
  unfold logicalBytes headerCount
  cases hf : s.cfg.flagsByte with
  | false =>
    have hk : headerField s.cfg s.rxHidx = 1 := by simp [headerField, hf, hidx]
    have hkeep : s.rxFlags = flags := (hzero hf).trans (hflags hf).symm
    refine (rxBytes_stuff_address hs hesc hk).trans ?_
    rw [hidx, hcrc, hkeep]
    rfl
  | true =>
    have hk : headerField s.cfg s.rxHidx = 0 := by simp [headerField, hf, hidx]
    have hk1 : headerField s.cfg (s.rxHidx + 1) = 1 := by rw [headerField_succ, hk]
    rw [if_pos rfl, List.append_nil, List.singleton_append, rxBytes_stuff_field hs hesc hk (by decide),
      rxBytes_stuff_address (by exact hs) (by exact hesc) (by exact hk1)]
    simp only [setHeaderField, hidx, hcrc]
    rfl

/-- The bytes of a body, all of them still to come (R108). -/
theorem rxBytes_stuff_body (body : List Byte) {s : State} (hs : s.rxState = .body) (hesc : s.rxEsc = false)
    (hlen : s.rxBody.length + body.length = s.rxLen.toNat) (hpos : body ≠ []) :
    rxBytes (stuff body) s = { s with
      rxBody := s.rxBody ++ body
      rxCrc := body.foldl crc16Step s.rxCrc
      rxState := .crc
      rxCidx := 0 } := by
  induction body generalizing s with
  | nil => exact absurd rfl hpos
  | cons v vs ih =>
    rw [rxBytes_stuff_cons (by rw [hs]; rfl) hesc, logicalByte_body hs, bodyByte]
    simp only [bufAppend_length]
    rw [List.length_cons] at hlen
    cases vs with
    | nil => rw [if_pos (by exact hlen)]; rfl
    | cons v' vs =>
      rw [List.length_cons] at hlen
      have hlen' : (bufAppend s.rxBody v).length + (v' :: vs).length = s.rxLen.toNat := by
        rw [bufAppend_length, List.length_cons]
        omega
      rw [if_neg (by omega), ih (by exact hs) (by exact hesc) hlen' nofun]
      simp [bufAppend]

/-- What follows the length byte of a body of that length (R107, R108). -/
theorem rxBytes_stuff_afterLength {s : State} {len : Byte} {body : List Byte} (hesc : s.rxEsc = false)
    (hrxLen : s.rxLen = len) (hbody : s.rxBody = []) (hlen : body.length = len.toNat)
    (hmax : len.toNat ≤ s.cfg.maxBody.val) :
    rxBytes (stuff body) (afterLength len s) = { s with
      rxBody := body
      rxCrc := body.foldl crc16Step s.rxCrc
      rxState := .crc
      rxCidx := 0 } := by
  rw [afterLength, if_neg (Nat.not_lt.mpr hmax)]
  by_cases hzero : len = 0
  · obtain rfl : body = [] := List.eq_nil_of_length_eq_zero (by rw [hlen, hzero]; rfl)
    rw [if_pos hzero]
    simp [hbody]
  · have hpos : body ≠ [] := fun hnil => hzero (BitVec.eq_of_toNat_eq (by rw [← hlen, hnil]; rfl))
    rw [if_neg hzero, rxBytes_stuff_body body rfl (by exact hesc) (by simp [hbody, hlen, hrxLen]) hpos]
    simp [hbody]

/-- The two CRC bytes, when they are those of the running CRC (R109). -/
theorem rxBytes_stuff_crc {s : State} {c : Crc} (hs : s.rxState = .crc) (hesc : s.rxEsc = false)
    (hidx : s.rxCidx = 0) (hcrc : s.rxCrc = c) :
    rxBytes (stuff [crcHi c, crcLo c]) s = complete c { s with rxChi := crcHi c, rxCidx := 1 } := by
  rw [rxBytes_stuff_cons (by rw [hs]; rfl) hesc, logicalByte_crc hs, crcByte, if_pos hidx,
    rxBytes_stuff_cons (by simp only [hs]; rfl) (by exact hesc), logicalByte_crc (by exact hs), stuff_nil, rxBytes_nil,
    crcByte, if_neg (by exact one_ne_zero), joinCrc_crcHi_crcLo, if_pos hcrc.symm]

/-- The decoder at the end of the frame of `m`, both CRC bytes taken. -/
def frameTaken (m : Msg) (s : State) : State :=
  { s with
    rxState := .crc
    rxHidx := headerCount s.cfg
    rxFlags := m.flags
    rxDest := m.dest
    rxCmd := m.cmd
    rxLen := m.len
    rxBody := m.body
    rxCrc := m.crc
    rxCidx := 1
    rxChi := crcHi m.crc }

theorem rxBytes_stuff_message {s : State} {m : Msg} (h : AtFrameStart s) (hm : m.good s.cfg) :
    rxBytes (stuff (m.logical s.cfg ++ [crcHi m.crc, crcLo m.crc])) s = complete m.crc (frameTaken m s) := by
  obtain ⟨hlen, hmax, hflags, hcrc⟩ := hm
  have hsplit : m.logical s.cfg = logicalBytes s.cfg m.flags m.dest m.cmd m.len [] ++ m.body := by
    simp [Msg.logical, logicalBytes]
  have hrun : m.body.foldl crc16Step (crc16 (logicalBytes s.cfg m.flags m.dest m.cmd m.len [])) = m.crc := by
    rw [hcrc, hsplit, crc16_append]
  rw [hsplit, stuff_append, stuff_append, rxBytes_append, rxBytes_append, rxBytes_stuff_header h hflags,
    rxBytes_stuff_afterLength (by exact h.rxEsc) (by rfl) (by exact h.rxBody) hlen (by exact hmax),
    rxBytes_stuff_crc (by rfl) (by exact h.rxEsc) (by rfl) hrun, hrun]
  rfl

/-! ## The end of the frame (R110) -/

theorem complete_free {s : State} (h : s.rxValid = false) (crc : Crc) :
    complete crc s = { s with rxMsg := receivedMsg crc s, rxValid := true, rxState := .ready } := by
  simp [complete, h]

theorem complete_occupied {s : State} (h : s.rxValid = true) (crc : Crc) :
    complete crc s = { setFlag .overrun s with rxState := .ready } := if_pos h

theorem getLsbD_setFlag {s : State} {i : Nat} (h : s.rxErr.getLsbD i = true) (f : RxFlag) :
    (setFlag f s).rxErr.getLsbD i = true := by
  rw [setFlag_rxErr, BitVec.getLsbD_or, h, Bool.true_or]

/-- Settles O30: the marker begins a frame in any good state, the message's bytes lead to its end, and the end loads the
register or sets OVERRUN. -/
theorem frameIsReceivedFromAnyGoodState : Obligations.FrameIsReceivedFromAnyGoodState := by
  intro s m rest hinv hm hinputs
  refine ⟨_, run_rxInputs _ hinputs, rfl, ?_⟩
  obtain ⟨u, hmarker, hstart, hcfg, hvalid, hmsg, hrearm⟩ := rxBytes_marker hinv
  rw [← hcfg] at hm
  have hend : rxBytes (wireFrame (m.logical s.cfg)) s = complete m.crc (frameTaken m u) := by
    obtain ⟨-, -, -, hcrc⟩ := id hm
    rw [wireFrame, rxBytes_append, hmarker, ← hcfg, ← hcrc, rxBytes_stuff_message hstart hm]
  rw [hend]
  by_cases hfree : s.rxValid = false
  · rw [complete_free (s := frameTaken m u) (hvalid.trans hfree)]
    exact ⟨rfl, rfl, fun _ => rfl, fun h => absurd (h.symm.trans hfree) nofun, hrearm⟩
  · have hoccupied := Bool.eq_true_of_not_eq_false hfree
    rw [complete_occupied (s := frameTaken m u) (hvalid.trans hoccupied)]
    exact ⟨rfl, hvalid.trans hoccupied, fun h => absurd h hfree, fun _ => ⟨hmsg, by simp [RxFlag.bit]⟩,
      fun hin hcut => getLsbD_setFlag (hrearm hin hcut) .overrun⟩

end Sys2Proof.Machine

/-! A message sent by one block and received by another (41_frame_encoder.md R133): the host's SEND (30_encoding.md R85)
as a run of the sender, and its frame as a good message for the receiver. -/

namespace Sys2Proof.Machine

/-! ## The encoder's commands where they succeed -/

/-- TX_START from TX_IDLE (R125). -/
theorem exec_txStart_of_txIdle {s : State} {flags : Byte} (hs : s.txState = .txIdle)
    (hflags : s.cfg.flagsByte = true ∨ flags = 0) (dest cmd : Byte) :
    exec (.txStart flags dest cmd) s =
      ok 0 { s with txFlags := flags, txDest := dest, txCmd := cmd, txBody := [], txState := .txOpen } := by
  have hkeep : (if s.cfg.flagsByte then flags else 0) = flags := by
    obtain h | rfl := hflags
    · exact if_pos h
    · exact ite_self _
  have hlegal : ¬ (s.cfg.flagsByte = false ∧ flags ≠ 0) := by
    rintro ⟨hrev, hne⟩
    exact hflags.elim (fun h => by simp [hrev] at h) hne
  refine (if_neg hlegal).trans ((if_neg (not_not.mpr hs)).trans ?_)
  rw [hkeep]

/-- TX_DATA with room in the body (R127). -/
theorem exec_txData_of_txOpen {s : State} (hs : s.txState = .txOpen) (hroom : s.txBody.length < s.cfg.maxBody.val)
    (b : Byte) :
    exec (.txData b) s = ok (count24 (s.txBody.length + 1)) { s with txBody := s.txBody ++ [b] } := by
  refine (if_neg (not_not.mpr hs)).trans ((if_neg hroom.ne).trans ?_)
  simp only [bufAppend, List.length_append, List.length_singleton]

/-- TX_END with no line change pending (R129). -/
theorem exec_txEnd_of_txOpen {s : State} (hs : s.txState = .txOpen) (hline : s.linePending = false) :
    exec .txEnd s = ok (lenCrc24 (lengthByte s.txBody) (crc16 (txLogical s))) { s with
      txResp := s.cfg.flagsByte && s.txFlags.getLsbD 1
      txOut := s.txOut ++ wireFrame (txLogical s)
      txState := .txSend } := by
  refine (if_neg (not_not.mpr hs)).trans (congrArg (ok _) ((if_neg ?_).trans rfl))
  exact Bool.eq_false_iff.mp hline

/-! ## SEND -/

/-- TX_DATA over a list of bytes that the body has room for. -/
theorem run_txDatas (xs : List Byte) {s : State} {rest : List Input} (hs : s.txState = .txOpen)
    (hroom : s.txBody.length + xs.length ≤ s.cfg.maxBody.val)
    (hinputs : s.inputs = commandInputs (xs.map .txData) ++ rest) :
    ∃ rs : List Word, Host.Core.run Sys2Proof.core xs.length s = .next { s with
      inputs := rest
      txBody := s.txBody ++ xs
      responses := rs } := by
  induction xs generalizing s with
  | nil =>
    obtain rfl : s.inputs = rest := hinputs
    exact ⟨s.responses, by simp [Host.Core.run]⟩
  | cons b xs ih =>
    rw [List.length_cons] at hroom
    have hlt : s.txBody.length < s.cfg.maxBody.val := by omega
    have hfirst := run_command (n := xs.length) (i := .txData b) hinputs rfl
      (exec_txData_of_txOpen (by exact hs) (by exact hlt) b)
    obtain ⟨rs, hrest⟩ := ih (s := respond .ok (count24 (s.txBody.length + 1))
      { s with inputs := commandInputs (xs.map .txData) ++ rest, txBody := s.txBody ++ [b] }) hs
      (by simp only [respond_txBody, respond_cfg, List.length_append, List.length_singleton]; omega) rfl
    exact ⟨rs, hfirst.trans (hrest.trans (by simp [respond]))⟩

/-- The message that SEND builds with the parameters `cfg`. -/
def sentMsg (cfg : Config) (flags dest cmd : Byte) (body : List Byte) : Msg :=
  ⟨flags, dest, cmd, lengthByte body, body, crc16 (logicalBytes cfg flags dest cmd (lengthByte body) body)⟩

theorem sentMsg_good {cfg : Config} {flags : Byte} (hflags : cfg.flagsByte = true ∨ flags = 0) (dest cmd : Byte)
    {body : List Byte} (hlen : body.length ≤ cfg.maxBody.val) : (sentMsg cfg flags dest cmd body).good cfg := by
  have hbyte : (lengthByte body).toNat = body.length := lengthByte_toNat (by omega)
  exact ⟨hbyte.symm, hbyte.le.trans hlen, fun h => hflags.resolve_left (by simp [h]), rfl⟩

/-- SEND from TX_IDLE puts the frame of its message on the wire and answers its length and CRC (R85, R129). -/
theorem run_sendCommands {s : State} {flags dest cmd : Byte} {body : List Byte} (hs : s.txState = .txIdle)
    (hline : s.linePending = false) (hflags : s.cfg.flagsByte = true ∨ flags = 0)
    (hlen : body.length ≤ s.cfg.maxBody.val) (hinputs : s.inputs = commandInputs (sendCommands flags dest cmd body)) :
    ∃ t, Host.Core.run Sys2Proof.core (body.length + 2) s = .next t ∧ t.txState = .txSend ∧
      t.txOut = s.txOut ++ wireFrame ((sentMsg s.cfg flags dest cmd body).logical s.cfg) ∧
      t.responses.getLast? =
        some (responseWord .ok (lenCrc24 (lengthByte body) (sentMsg s.cfg flags dest cmd body).crc)) := by
  have hinputs' : s.inputs = .command (encode (.txStart flags dest cmd)) ::
      (commandInputs (body.map .txData) ++ [.command (encode .txEnd)]) := by
    simpa [sendCommands, startMessage, sendData, commandInputs] using hinputs
  have hstart := run_command (n := body.length + 1) hinputs' (by simpa [Instr.wellFormed] using hflags)
    (exec_txStart_of_txIdle (by exact hs) (by exact hflags) dest cmd)
  obtain ⟨rs, hbody⟩ := run_txDatas body (s := respond .ok 0 { s with
    inputs := commandInputs (body.map .txData) ++ [.command (encode .txEnd)]
    txFlags := flags, txDest := dest, txCmd := cmd, txBody := [], txState := .txOpen }) rfl (by simpa using hlen) rfl
  have hend := (run_add (n := 1) hbody).trans (run_command (i := .txEnd) rfl rfl (exec_txEnd_of_txOpen rfl hline))
  exact ⟨_, hstart.trans hend, rfl, rfl, List.getLast?_concat⟩

/-- Settles O31: the frame that SEND hands out is that of a good message, which any good decoder with a free register
receives. -/
theorem sendThenReceiveRoundTrip : Obligations.SendThenReceiveRoundTrip := by
  intro s r flags dest cmd body hs hline hflags hlen hinputs hcfg hinv hfree
  obtain ⟨t, hsend, htx, hout, hanswer⟩ := run_sendCommands hs hline hflags hlen hinputs
  rw [← hcfg] at hflags hlen hout hanswer
  have hgood := sentMsg_good hflags dest cmd hlen
  generalize hm : sentMsg r.cfg flags dest cmd body = m at hgood hout hanswer
  obtain ⟨u, hrun, -, hready, hvalid, hmsg, -⟩ := frameIsReceivedFromAnyGoodState
    { r with inputs := rxInputs (wireFrame (m.logical r.cfg)) } m [] { hinv with } hgood (List.append_nil _).symm
  exact ⟨t, wireFrame (m.logical r.cfg), m.crc, u, hsend, htx, hout, hanswer, hrun, hready, hvalid,
    (hmsg hfree).trans (by subst hm; rfl)⟩

end Sys2Proof.Machine

/-! The rules of the frame decoder (40_frame_decoder.md R100 to R116), one equation per case: a received byte outside
and inside a frame, a logical byte by the part of the frame it belongs to, the timeout, and the commands that read or
release the message register. -/

namespace Sys2Proof.Machine

/-! ## Marker bytes (R101 to R103, R106) -/

/-- Settles O32. -/
theorem markerBytesFollowTheirRules : Obligations.MarkerBytesFollowTheirRules := by
  intro b s
  refine ⟨fun hs => ?_, fun hs hb => (rxByte_waitSom2 hs b).trans (if_neg hb), ?_⟩
  · have hout : s.rxState.inFrame = false ∧ s.rxState ≠ .waitSom2 := by
      obtain h | h | h := hs <;> rw [h] <;> decide
    exact rxByte_outside hout.1 hout.2 b
  · rintro hs rfl
    exact rxByte_marker_waitSom2 hs

theorem rxByte_marker_beforeHeader {s : State} (h : s.rxState = .header ∧ s.rxHidx = 0 ∧ s.rxEsc = false) :
    rxByte 0xFF s = s := by
  rw [rxByte_inFrame (by rw [h.1]; rfl), inFrame, if_pos rfl, inFrameMarker, if_pos h]

/-- Settles O33. -/
theorem markerInsideFrameRearms : Obligations.MarkerInsideFrameRearms :=
  fun _ hs => ⟨rxByte_marker_beforeHeader, rxByte_marker_inFrame hs⟩

/-! ## Escapes (R104, R105) -/

theorem inFrame_escape {s : State} (hesc : s.rxEsc = false) : inFrame 0xFE s = { s with rxEsc := true } := by
  rw [inFrame, if_neg (by decide), if_neg (Bool.eq_false_iff.mp hesc), if_pos rfl]

theorem inFrame_plain {s : State} {b : Byte} (hesc : s.rxEsc = false) (hFF : b ≠ 0xFF) (hFE : b ≠ 0xFE) :
    inFrame b s = logicalByte b s := by
  rw [inFrame, if_neg hFF, if_neg (Bool.eq_false_iff.mp hesc), if_neg hFE]

theorem inFrame_afterEscape {s : State} {b : Byte} (hesc : s.rxEsc = true) (hFF : b ≠ 0xFF) :
    inFrame b s = escaped b s := by
  rw [inFrame, if_neg hFF, if_pos hesc]

theorem escaped_zero (s : State) : escaped 0x00 s = logicalByte 0xFE { s with rxEsc := false } := rfl

theorem escaped_one (s : State) : escaped 0x01 s = logicalByte 0xFF { s with rxEsc := false } := rfl

theorem escaped_other {b : Byte} (h0 : b ≠ 0x00) (h1 : b ≠ 0x01) (s : State) :
    escaped b s = { setFlag .escErr s with rxEsc := false, rxState := .aborted } :=
  (if_neg h0).trans (if_neg h1)

/-- Settles O34. -/
theorem escapedBytesFollowTheirRules : Obligations.EscapedBytesFollowTheirRules := by
  intro b s hs hFF
  have hrule : applyEvent (.rxByte b) s = inFrame b s := rxByte_inFrame hs b
  rw [hrule]
  refine ⟨?_, fun hesc hFE => inFrame_plain hesc hFF hFE, ?_, ?_,
    fun hesc h0 h1 => (inFrame_afterEscape hesc hFF).trans (escaped_other h0 h1 s)⟩
  · rintro hesc rfl
    exact inFrame_escape hesc
  · rintro hesc rfl
    exact (inFrame_afterEscape hesc hFF).trans (escaped_zero s)
  · rintro hesc rfl
    exact (inFrame_afterEscape hesc hFF).trans (escaped_one s)

/-! ## Logical bytes in HEADER (R107) -/

theorem headerByte_field {s : State} {k : Nat} (hk : headerField s.cfg s.rxHidx = k) (hlast : k ≠ 3) (v : Byte) :
    headerByte v s =
      setHeaderField k v { s with rxCrc := crc16Step s.rxCrc v, rxHidx := s.rxHidx + 1 } := by
  subst hk
  exact if_neg hlast

theorem headerByte_length {s : State} (hk : headerField s.cfg s.rxHidx = 3) (v : Byte) :
    headerByte v s =
      afterLength v { s with rxCrc := crc16Step s.rxCrc v, rxHidx := s.rxHidx + 1, rxLen := v } := by
  simp only [headerByte, hk, if_true, setHeaderField]

theorem afterLength_tooLong {s : State} {v : Byte} (h : s.cfg.maxBody.val < v.toNat) :
    afterLength v s = { setFlag .lenErr s with rxState := .aborted } := if_pos h

theorem afterLength_zero (s : State) : afterLength 0 s = { s with rxState := .crc, rxCidx := 0 } := rfl

theorem afterLength_body {s : State} {v : Byte} (hne : v ≠ 0) (h : v.toNat ≤ s.cfg.maxBody.val) :
    afterLength v s = { s with rxState := .body } :=
  (if_neg (Nat.not_lt.mpr h)).trans (if_neg hne)

/-- Settles O35: the field decides the register, and after the length field the length decides the state. -/
theorem headerBytesFollowTheirRule : Obligations.HeaderBytesFollowTheirRule := by
  rintro v s k hs hk u rfl
  have hfield : headerField s.cfg s.rxHidx = k := hk.symm
  rw [logicalByte_header hs]
  refine ⟨?_, ?_, ?_, ?_, ?_, ?_⟩
  · rintro rfl
    exact headerByte_field hfield (by decide) v
  · rintro rfl
    exact headerByte_field hfield (by decide) v
  · rintro rfl
    exact headerByte_field hfield (by decide) v
  · rintro rfl hlong
    exact (headerByte_length hfield v).trans (afterLength_tooLong hlong)
  · rintro rfl rfl
    exact (headerByte_length hfield 0).trans (afterLength_zero _)
  · rintro rfl hne hle
    exact (headerByte_length hfield v).trans (afterLength_body hne hle)

/-! ## Logical bytes in BODY (R108) -/

/-- Settles O36. -/
theorem bodyBytesFollowTheirRule : Obligations.BodyBytesFollowTheirRule := by
  rintro v s hs u rfl
  rw [logicalByte_body hs, bodyByte, bufAppend_length]
  exact ⟨fun h => if_pos h, fun h => if_neg h⟩

/-! ## Logical bytes in CRC (R109, R110) -/

theorem crcByte_first {s : State} (h : s.rxCidx = 0) (v : Byte) :
    crcByte v s = { s with rxChi := v, rxCidx := 1 } := if_pos h

theorem crcByte_mismatch {s : State} {v : Byte} (h : s.rxCidx ≠ 0) (hne : joinCrc s.rxChi v ≠ s.rxCrc) :
    crcByte v s = { setFlag .crcErr s with rxState := .aborted } := (if_neg h).trans (if_neg hne)

theorem crcByte_match {s : State} {v : Byte} (h : s.rxCidx ≠ 0) (heq : joinCrc s.rxChi v = s.rxCrc) :
    crcByte v s = complete (joinCrc s.rxChi v) s := (if_neg h).trans (if_pos heq)

/-- Settles O37. -/
theorem crcBytesFollowTheirRules : Obligations.CrcBytesFollowTheirRules := by
  intro v s hs
  rw [logicalByte_crc hs]
  exact ⟨fun h => crcByte_first h v, fun h hne => crcByte_mismatch h hne,
    fun h heq hvalid => (crcByte_match h heq).trans (complete_occupied hvalid _),
    fun h heq hfree => (crcByte_match h heq).trans (complete_free hfree _)⟩

/-! ## The timeout (R111) -/

theorem rxTimeout_inFrame {s : State} (h : s.rxState.inFrame = true) :
    rxTimeout s = { setFlag .tout s with rxState := .waitSom1, rxEsc := false } := by
  cases hs : s.rxState with
  | header | body | crc => simp only [rxTimeout, hs]
  | waitSom1 | waitSom2 | ready | aborted => rw [hs] at h; exact absurd h (by decide)

theorem rxTimeout_outside {s : State} (h : s.rxState.inFrame = false) :
    rxTimeout s = { s with rxState := .waitSom1, rxEsc := false } := by
  cases hs : s.rxState with
  | header | body | crc => rw [hs] at h; exact absurd h (by decide)
  | waitSom1 | waitSom2 | ready | aborted => simp only [rxTimeout, hs]

/-- Settles O38. -/
theorem rxTimeoutFollowsItsRule : Obligations.RxTimeoutFollowsItsRule :=
  fun _ => ⟨rxTimeout_inFrame, rxTimeout_outside⟩

/-! ## The message register (R113 to R116) -/

theorem exec_rxHdr_of_empty {s : State} (h : s.rxValid = false) : exec .rxHdr s = reject .empty s := if_pos h

theorem exec_rxHdr_of_valid {s : State} (h : s.rxValid = true) :
    exec .rxHdr s = ok (bytes24 s.rxMsg.flags s.rxMsg.dest s.rxMsg.cmd) s := if_neg (ne_false_of_eq_true h)

theorem exec_rxLenCrc_of_empty {s : State} (h : s.rxValid = false) : exec .rxLenCrc s = reject .empty s := if_pos h

theorem exec_rxLenCrc_of_valid {s : State} (h : s.rxValid = true) :
    exec .rxLenCrc s = ok (lenCrc24 s.rxMsg.len s.rxMsg.crc) s := if_neg (ne_false_of_eq_true h)

/-- Settles O39: a revision without flags delivers none, since a delivered message is a good one. -/
theorem rxHdrAndRxLenCrcFollowTheirRules : Obligations.RxHdrAndRxLenCrcFollowTheirRules := by
  refine ⟨rfl, rfl, fun s => ⟨fun h => ?_, fun h => ?_, fun hvalid hinv hrev => ?_⟩⟩
  · exact ⟨exec_rxHdr_of_empty h, exec_rxLenCrc_of_empty h⟩
  · exact ⟨exec_rxHdr_of_valid h, exec_rxLenCrc_of_valid h⟩
  · obtain ⟨-, -, hflags, -⟩ := hinv.msg_good hvalid
    exact hflags hrev

theorem exec_rxBody_of_empty {s : State} (h : s.rxValid = false) (index : Byte) :
    exec (.rxBody index) s = reject .empty s := if_pos h

theorem exec_rxBody_of_outside {s : State} {index : Byte} (h : s.rxValid = true)
    (hout : s.rxMsg.len.toNat ≤ index.toNat) : exec (.rxBody index) s = reject .range s :=
  (if_neg (ne_false_of_eq_true h)).trans (if_pos hout)

theorem exec_rxBody_of_getElem? {s : State} {index b : Byte} (h : s.rxValid = true)
    (hin : index.toNat < s.rxMsg.len.toNat) (hb : s.rxMsg.body[index.toNat]? = some b) :
    exec (.rxBody index) s = ok (zext24 b) s := by
  rw [← bufRead_of_getElem? hb]
  exact (if_neg (ne_false_of_eq_true h)).trans (if_neg (Nat.not_le.mpr hin))

/-- An OK response with a byte is the byte as a word (30_encoding.md R76). -/
theorem responseWord_ok_byte (b : Byte) : responseWord .ok (zext24 b) = b.setWidth 32 := by
  have hcrc := responseWord_ok_crc (b.setWidth 16)
  rwa [zext24, BitVec.setWidth_setWidth (by decide), BitVec.setWidth_setWidth (by decide)] at hcrc

/-- The body buffer of a good message holds every byte that its length promises (10_state.md R27). -/
theorem Msg.good.exists_byte {cfg : Config} {m : Msg} (h : m.good cfg) {i : Nat} (hi : i < m.len.toNat) :
    ∃ b : Byte, m.body[i]? = some b := by
  obtain ⟨hlen, -, -, -⟩ := h
  exact ⟨_, List.getElem?_eq_getElem (hlen ▸ hi)⟩

/-- Settles O40. -/
theorem rxBodyFollowsItsRule : Obligations.RxBodyFollowsItsRule := by
  intro index s
  refine ⟨rfl, fun h => exec_rxBody_of_empty h index, exec_rxBody_of_outside,
    fun hvalid hin => ⟨fun b hb => ?_, fun hinv => (hinv.msg_good hvalid).exists_byte hin⟩⟩
  rw [exec_rxBody_of_getElem? hvalid hin hb, ← responseWord_ok_byte]
  rfl

theorem exec_rxPop_of_valid {s : State} (h : s.rxValid = true) :
    exec .rxPop s = ok 0 { s with rxValid := false } := if_neg (ne_false_of_eq_true h)

/-- Settles O41. -/
theorem rxPopFollowsItsRule : Obligations.RxPopFollowsItsRule :=
  ⟨rfl, fun _ => ⟨exec_rxPop_of_empty, exec_rxPop_of_valid⟩⟩

end Sys2Proof.Machine

/-! What moves the message register (40_frame_decoder.md R110, R116, R119): a received byte keeps it or delivers a frame
whose CRC matched, and of the commands RX_POP and SOFT_RESET alone empty it. -/

namespace Sys2Proof.Machine

/-! ## Received bytes -/

/-- `t` has the message register of `s`. -/
def KeepsMsg (s t : State) : Prop := t.rxValid = s.rxValid ∧ t.rxMsg = s.rxMsg

/-- From `s` to `t` the frame received in `s` went to the free message register, its CRC compared (R109, R110). -/
structure Delivers (s t : State) : Prop where
  free        : s.rxValid = false
  valid       : t.rxValid = true
  in_crc      : s.rxState = .crc
  second_byte : s.rxCidx ≠ 0
  crc_matched : ∃ v, joinCrc s.rxChi v = s.rxCrc
  ready       : t.rxState = .ready
  no_flag     : t.rxErr = s.rxErr
  msg         : t.rxMsg = receivedMsg s.rxCrc s

/-- What one received byte can do to the message register. -/
def KeepsOrDelivers (s t : State) : Prop := KeepsMsg s t ∨ Delivers s t

namespace KeepsOrDelivers

theorem of_headerByte (v : Byte) (s : State) : KeepsOrDelivers s (headerByte v s) := by
  obtain ⟨f, d, c, l, heq, -, -⟩ := headerTaken_eq v s
  rw [headerByte_eq, heq]
  unfold afterLength
  split_ifs <;> exact .inl ⟨rfl, rfl⟩

theorem of_bodyByte (v : Byte) (s : State) : KeepsOrDelivers s (bodyByte v s) := by
  unfold bodyByte
  simp only
  split <;> exact .inl ⟨rfl, rfl⟩

/-- Only here is a frame delivered: at the second byte, if it matches and the register is free. -/
theorem of_crcByte {s : State} (hs : s.rxState = .crc) (v : Byte) : KeepsOrDelivers s (crcByte v s) := by
  by_cases hfirst : s.rxCidx = 0
  · rw [crcByte_first hfirst]
    exact .inl ⟨rfl, rfl⟩
  by_cases hmatch : joinCrc s.rxChi v = s.rxCrc
  · rw [crcByte_match hfirst hmatch, hmatch]
    cases hvalid : s.rxValid with
    | false =>
      rw [complete_free hvalid]
      exact .inr ⟨hvalid, rfl, hs, hfirst, ⟨v, hmatch⟩, rfl, rfl, rfl⟩
    | true =>
      rw [complete_occupied hvalid]
      exact .inl ⟨rfl, rfl⟩
  · rw [crcByte_mismatch hfirst hmatch]
    exact .inl ⟨rfl, rfl⟩

theorem of_logicalByte (v : Byte) (s : State) : KeepsOrDelivers s (logicalByte v s) := by
  unfold logicalByte
  split
  · exact of_headerByte v s
  · exact of_bodyByte v s
  · exact of_crcByte ‹_› v
  all_goals exact .inl ⟨rfl, rfl⟩

/-- The escape state has no part in it. -/
theorem of_escapeCleared {s t : State} (h : KeepsOrDelivers { s with rxEsc := false } t) : KeepsOrDelivers s t := by
  obtain hkeep | ⟨hfree, hvalid, hcrc, hsecond, hmatch, hready, herr, hmsg⟩ := h
  · exact .inl hkeep
  · exact .inr ⟨hfree, hvalid, hcrc, hsecond, hmatch, hready, herr, hmsg⟩

theorem of_inFrame (b : Byte) (s : State) : KeepsOrDelivers s (inFrame b s) := by
  unfold inFrame inFrameMarker escaped
  split_ifs
  · exact .inl ⟨rfl, rfl⟩
  · exact .inl ⟨rfl, rfl⟩
  · exact of_escapeCleared (of_logicalByte 0xFE _)
  · exact of_escapeCleared (of_logicalByte 0xFF _)
  · exact .inl ⟨rfl, rfl⟩
  · exact .inl ⟨rfl, rfl⟩
  · exact of_logicalByte b s

theorem of_rxByte (b : Byte) (s : State) : KeepsOrDelivers s (rxByte b s) := by
  obtain ⟨-, heq⟩ | ⟨-, heq⟩ | ⟨-, heq⟩ := rxByte_cases b s <;> rw [heq]
  · exact .inl ⟨rfl, rfl⟩
  · unfold secondMarker
    split <;> exact .inl ⟨rfl, rfl⟩
  · exact of_inFrame b s

end KeepsOrDelivers

/-! ## The other events and the commands -/

namespace KeepsMsg

theorem of_encoderFrame {s t : State} (h : EncoderFrame s t) : KeepsMsg s t := by
  rw [h]
  exact ⟨rfl, rfl⟩

theorem of_rxTimeout (s : State) : KeepsMsg s (rxTimeout s) := by
  cases h : s.rxState.inFrame with
  | true => rw [rxTimeout_inFrame h]; exact ⟨rfl, rfl⟩
  | false => rw [rxTimeout_outside h]; exact ⟨rfl, rfl⟩

end KeepsMsg

theorem KeepsOrDelivers.of_applyEvent (e : Event) (s : State) : KeepsOrDelivers s (applyEvent e s) := by
  cases e with
  | rxByte b => exact of_rxByte b s
  | rxTimeout => exact .inl (.of_rxTimeout s)
  | txDrain => exact .inl (.of_encoderFrame (txDrain_frame s))
  | lineConfirm v => exact .inl (.of_encoderFrame (lineConfirm_frame v s))

/-- What the command `i` can do to the message register. -/
def KeepsOrEmpties (i : Instr) (s t : State) : Prop :=
  KeepsMsg s t ∨ (t.rxValid = false ∧ t.rxMsg = s.rxMsg ∧ (i = .rxPop ∨ i = .softReset))

namespace KeepsOrEmpties

variable {i : Instr} {s t : State}

theorem ok (h : KeepsMsg s t) (d : Data) : NextSatisfies (KeepsOrEmpties i s) (ok d t) := .of_ok (.inl h)

theorem check {p : Prop} [Decidable p] {rc : ResultCode} {o : Host.Outcome State Fault Refusal}
    (ho : NextSatisfies (KeepsOrEmpties i s) o) :
    NextSatisfies (KeepsOrEmpties i s) (if p then reject rc s else o) :=
  .of_check (.inl ⟨rfl, rfl⟩) fun _ => ho

theorem exec (i : Instr) (s : State) : NextSatisfies (KeepsOrEmpties i s) (exec i s) := by
  cases i with
  | nop | crcInit | crcUpdate byte | crcRead | status | clearFlags mask => exact ok ⟨rfl, rfl⟩ _
  | txStart | txData | txFill | rxBody => exact check (check (ok ⟨rfl, rfl⟩ _))
  | txRespDone | rxHdr | rxLenCrc => exact check (ok ⟨rfl, rfl⟩ _)
  | txEnd =>
    have hframe := sendOrHold_frame (wireFrame (txLogical s))
      { s with txResp := s.cfg.flagsByte && s.txFlags.getLsbD 1 }
    exact check (ok (.of_encoderFrame hframe) _)
  | lineEnable | lineDisable => exact check (ok (.of_encoderFrame (requestLine_frame _ s)) _)
  | rxPop => exact check (.of_ok (.inr ⟨rfl, rfl, .inl rfl⟩))
  | softReset => exact .of_ok (.inr ⟨rfl, rfl, .inr rfl⟩)

end KeepsOrEmpties

/-- A word empties the register only if it is RX_POP's or SOFT_RESET's. -/
theorem runWord_keeps_or_empties {w : Word} {s t : State} (h : runWord w s = .next t) :
    KeepsMsg s t ∨ (t.rxValid = false ∧ t.rxMsg = s.rxMsg ∧ (w = 0x23000000 ∨ w = 0xF0000000)) := by
  obtain ⟨i, hdecode, hexec⟩ | ⟨-, -, rfl⟩ := runWord_cases h
  · obtain ⟨-, rfl⟩ := decode_eq_ok_iff_encode.mp hdecode
    obtain hkeep | ⟨hvalid, hmsg, rfl | rfl⟩ := KeepsOrEmpties.exec i s t hexec
    · exact .inl hkeep
    · exact .inr ⟨hvalid, hmsg, .inl rfl⟩
    · exact .inr ⟨hvalid, hmsg, .inr rfl⟩
  · exact .inl ⟨rfl, rfl⟩

/-- Settles O42, by the kind of the next input. -/
theorem onlyAMatchingFrameIsDelivered : Obligations.OnlyAMatchingFrameIsDelivered := by
  intro s t h
  obtain ⟨-, rfl⟩ | ⟨w, rest, hinputs, hrun⟩ | ⟨e, rest, -, rfl⟩ := step_cases h
  · exact .inl ⟨rfl, rfl⟩
  · obtain hkeep | ⟨hvalid, hmsg, rfl | rfl⟩ := runWord_keeps_or_empties hrun
    · exact .inl hkeep
    · exact .inr (.inl ⟨hvalid, hmsg, rest, .inl hinputs⟩)
    · exact .inr (.inl ⟨hvalid, hmsg, rest, .inr hinputs⟩)
  · obtain hkeep | hdelivers := KeepsOrDelivers.of_applyEvent e { s with inputs := rest }
    · exact .inl hkeep
    · exact .inr (.inr ⟨hdelivers.free, hdelivers.valid, hdelivers.in_crc, hdelivers.second_byte, hdelivers.ready,
        hdelivers.no_flag, hdelivers.msg⟩)

end Sys2Proof.Machine

/-! The decoder apart from the rest of the block (40_frame_decoder.md R119, 41_frame_encoder.md R137): a receive event
commutes with any change of the encoder, the line arbiter and the host's CRC, so it neither reads nor writes them. -/

namespace Sys2Proof.Machine

/-- `s` with the encoder, the line arbiter and the host's CRC of `x`. -/
def withEncoder (x s : State) : State :=
  { s with
    txState := x.txState, txFlags := x.txFlags, txDest := x.txDest, txCmd := x.txCmd, txBody := x.txBody,
    txFrame := x.txFrame, txOut := x.txOut, txResp := x.txResp, linePending := x.linePending,
    lineState := x.lineState, crcAcc := x.crcAcc }

theorem headerByte_withEncoder (v : Byte) (x s : State) :
    headerByte v (withEncoder x s) = withEncoder x (headerByte v s) := by
  have htaken : headerTaken v (withEncoder x s) = withEncoder x (headerTaken v s) := by
    simp only [headerTaken, setHeaderField_eq, withEncoder]
  have hlength (t : State) : afterLength v (withEncoder x t) = withEncoder x (afterLength v t) := by
    simp only [afterLength, apply_ite (withEncoder x)]
    rfl
  simp only [headerByte_eq, apply_ite (withEncoder x), htaken, hlength]
  rfl

theorem bodyByte_withEncoder (v : Byte) (x s : State) :
    bodyByte v (withEncoder x s) = withEncoder x (bodyByte v s) := by
  simp only [bodyByte, apply_ite (withEncoder x)]
  rfl

theorem crcByte_withEncoder (v : Byte) (x s : State) :
    crcByte v (withEncoder x s) = withEncoder x (crcByte v s) := by
  simp only [crcByte, complete, apply_ite (withEncoder x)]
  rfl

theorem logicalByte_withEncoder (v : Byte) (x s : State) :
    logicalByte v (withEncoder x s) = withEncoder x (logicalByte v s) := by
  cases hs : s.rxState with
  | header => rw [logicalByte_header hs, logicalByte_header (by exact hs), headerByte_withEncoder]
  | body => rw [logicalByte_body hs, logicalByte_body (by exact hs), bodyByte_withEncoder]
  | crc => rw [logicalByte_crc hs, logicalByte_crc (by exact hs), crcByte_withEncoder]
  | waitSom1 | waitSom2 | ready | aborted => simp only [logicalByte, withEncoder, hs]

theorem escaped_withEncoder (b : Byte) (x s : State) : escaped b (withEncoder x s) = withEncoder x (escaped b s) := by
  have hlogical (v : Byte) := logicalByte_withEncoder v x { s with rxEsc := false }
  simp only [escaped, apply_ite (withEncoder x), ← hlogical]
  rfl

theorem inFrame_withEncoder (b : Byte) (x s : State) : inFrame b (withEncoder x s) = withEncoder x (inFrame b s) := by
  simp only [inFrame, inFrameMarker, apply_ite (withEncoder x), escaped_withEncoder, logicalByte_withEncoder]
  rfl

theorem rxByte_withEncoder (b : Byte) (x s : State) : rxByte b (withEncoder x s) = withEncoder x (rxByte b s) := by
  by_cases hin : s.rxState.inFrame = true
  · rw [rxByte_inFrame hin, rxByte_inFrame (by exact hin), inFrame_withEncoder]
  by_cases hsom : s.rxState = .waitSom2
  · rw [rxByte_waitSom2 hsom, rxByte_waitSom2 (by exact hsom), secondMarker, secondMarker, apply_ite (withEncoder x)]
    rfl
  · have hout := Bool.eq_false_iff.mpr hin
    rw [rxByte_outside hout hsom, rxByte_outside (by exact hout) (by exact hsom)]
    rfl

theorem rxTimeout_withEncoder (x s : State) : rxTimeout (withEncoder x s) = withEncoder x (rxTimeout s) := by
  cases h : s.rxState.inFrame with
  | true => rw [rxTimeout_inFrame h, rxTimeout_inFrame (by exact h)]; rfl
  | false => rw [rxTimeout_outside h, rxTimeout_outside (by exact h)]; rfl

theorem applyEvent_withEncoder {e : Event} (he : (∃ b, e = .rxByte b) ∨ e = .rxTimeout) (x s : State) :
    applyEvent e (withEncoder x s) = withEncoder x (applyEvent e s) := by
  obtain ⟨b, rfl⟩ | rfl := he
  · exact rxByte_withEncoder b x s
  · exact rxTimeout_withEncoder x s

/-- Settles O56: the values named are those of some state. -/
theorem receiveEventsLeaveTheEncoderAlone : Obligations.ReceiveEventsLeaveTheEncoderAlone := by
  intro e s he tx flags dest cmd body frame out resp pending line acc
  exact applyEvent_withEncoder he { s with
    txState := tx, txFlags := flags, txDest := dest, txCmd := cmd, txBody := body, txFrame := frame, txOut := out,
    txResp := resp, linePending := pending, lineState := line, crcAcc := acc } s

end Sys2Proof.Machine

/-! The rules of the frame encoder (41_frame_encoder.md R125 to R132), one equation per case: each command where its
check fails and where it succeeds, and the drain of a frame. -/

namespace Sys2Proof.Machine

/-! ## TX_START and TX_DATA (R125, R127) -/

theorem exec_txStart_of_reserved {s : State} {flags : Byte} (hrev : s.cfg.flagsByte = false) (hflags : flags ≠ 0)
    (dest cmd : Byte) : exec (.txStart flags dest cmd) s = reject .reserved s := if_pos ⟨hrev, hflags⟩

/-- Settles O19. -/
theorem txStartFollowsItsRule : Obligations.TxStartFollowsItsRule := by
  intro flags dest cmd s
  refine ⟨rfl, fun hrev hflags => ?_, fun hlegal hbusy => ?_, fun hlegal hidle => ?_⟩
  · exact exec_txStart_of_reserved hrev hflags dest cmd
  · refine exec_txStart_of_ne_txIdle hbusy fun ⟨hrev, hflags⟩ => ?_
    exact hlegal.elim (fun h => by simp [hrev] at h) hflags
  · exact exec_txStart_of_txIdle hidle hlegal dest cmd

theorem exec_txData_of_ne_txOpen {s : State} (h : s.txState ≠ .txOpen) (b : Byte) :
    exec (.txData b) s = reject .state s := if_pos h

theorem exec_txData_of_full {s : State} (hs : s.txState = .txOpen) (hfull : s.txBody.length = s.cfg.maxBody.val)
    (b : Byte) : exec (.txData b) s = reject .full s := (if_neg (not_not.mpr hs)).trans (if_pos hfull)

/-- TX_DATA rejects a body of exactly the maximum length only. -/
theorem exec_txData_of_not_full {s : State} (hs : s.txState = .txOpen) (hroom : s.txBody.length ≠ s.cfg.maxBody.val)
    (b : Byte) :
    exec (.txData b) s = ok (count24 (s.txBody.length + 1)) { s with txBody := s.txBody ++ [b] } := by
  rw [← bufAppend_length s.txBody b]
  exact (if_neg (not_not.mpr hs)).trans (if_neg hroom)

/-- Settles O20. -/
theorem txDataFollowsItsRule : Obligations.TxDataFollowsItsRule := by
  intro b s
  refine ⟨rfl, fun hs => ?_, fun hs hfull => ?_, fun hs hroom => ?_⟩
  · exact exec_txData_of_ne_txOpen hs b
  · exact exec_txData_of_full hs hfull b
  · exact exec_txData_of_not_full hs hroom b

/-! ## TX_END (R129) -/

/-- TX_END while a line change is pending. -/
theorem exec_txEnd_of_pending {s : State} (hs : s.txState = .txOpen) (hline : s.linePending = true) :
    exec .txEnd s = ok (lenCrc24 (lengthByte s.txBody) (crc16 (txLogical s))) { s with
      txResp := s.cfg.flagsByte && s.txFlags.getLsbD 1
      txFrame := wireFrame (txLogical s)
      txState := .txHold } :=
  (if_neg (not_not.mpr hs)).trans (congrArg (ok _) (if_pos hline))

/-- Settles O21: the length, bytes, CRC and frame named are the operations' own. -/
theorem txEndFollowsItsRule : Obligations.TxEndFollowsItsRule := by
  refine ⟨rfl, fun s => ⟨exec_txEnd_of_ne_txOpen, ?_⟩⟩
  rintro len lg c frame rfl rfl rfl rfl hs
  exact ⟨exec_txEnd_of_pending hs, exec_txEnd_of_txOpen hs⟩

/-! ## The response phase (R130, R131) -/

theorem exec_txFill_of_rejected {s : State} (h : s.txState ≠ .txWaitResp ∨ s.linePending = true) (b : Byte) :
    exec (.txFill b) s = reject .state s := by
  by_cases hs : s.txState = .txWaitResp
  · exact (if_neg (not_not.mpr hs)).trans (if_pos (h.resolve_left (not_not.mpr hs)))
  · exact if_pos hs

theorem exec_txFill_of_txWaitResp {s : State} (hs : s.txState = .txWaitResp) (hline : s.linePending = false)
    (b : Byte) : exec (.txFill b) s = ok 0 (emit (stuff1 b) s) := by
  rw [← List.append_nil (stuff1 b)]
  exact (if_neg (not_not.mpr hs)).trans (if_neg (Bool.eq_false_iff.mp hline))

/-- Settles O22. -/
theorem txFillFollowsItsRule : Obligations.TxFillFollowsItsRule := by
  intro b s
  exact ⟨rfl, fun h => exec_txFill_of_rejected h b, fun hs hline => exec_txFill_of_txWaitResp hs hline b⟩

theorem exec_txRespDone_of_txWaitResp {s : State} (h : s.txState = .txWaitResp) :
    exec .txRespDone s = ok 0 { s with txState := .txIdle } := if_neg (not_not.mpr h)

/-- Settles O23. -/
theorem txRespDoneFollowsItsRule : Obligations.TxRespDoneFollowsItsRule :=
  ⟨rfl, fun _ => ⟨exec_txRespDone_of_ne_txWaitResp, exec_txRespDone_of_txWaitResp⟩⟩

/-! ## TX_DRAIN (R132) -/

theorem txDrain_of_txSend {s : State} (h : s.txState = .txSend) :
    txDrain s = { s with txState := if s.txResp then .txWaitResp else .txIdle } := by
  simp only [txDrain, h]

theorem txDrain_of_txDiscard {s : State} (h : s.txState = .txDiscard) : txDrain s = { s with txState := .txIdle } := by
  simp only [txDrain, h]

/-- With no frame in the transport a drain is ignored. -/
theorem txDrain_of_none {s : State} (hsend : s.txState ≠ .txSend) (hdiscard : s.txState ≠ .txDiscard) :
    txDrain s = s := by
  obtain ⟨h, -⟩ | ⟨h, -⟩ | ⟨-, -, heq⟩ := txDrain_cases s
  exacts [absurd h hsend, absurd h hdiscard, heq]

/-- Settles O24. -/
theorem txDrainFollowsItsRule : Obligations.TxDrainFollowsItsRule :=
  fun _ => ⟨txDrain_of_txSend, txDrain_of_txDiscard, txDrain_of_none⟩

end Sys2Proof.Machine

/-! The moves of the encoder (41_frame_encoder.md R126, R134, R137; 43_line_arbiter.md R157): which commands and events
change `tx_state`, which lengthen `txout` while the line is pending, and that none of the encoder's looks at the
decoder. -/

namespace Sys2Proof.Machine

/-! ## Changes of `tx_state` (R126) -/

/-- The change of `tx_state` that the rule of a command gives (R125, R129, R131, 44_control.md R167); the other commands
have none. -/
def CommandMoves (i : Instr) (s t : State) : Prop :=
  match i with
  | .txStart _ _ _ => s.txState = .txIdle ∧ t.txState = .txOpen
  | .txEnd => s.txState = .txOpen ∧ t.txState = if s.linePending then .txHold else .txSend
  | .txRespDone => s.txState = .txWaitResp ∧ t.txState = .txIdle
  | .softReset => t.txState = (softReset s).txState
  | _ => False

/-- From `s` to `t` the encoder stays where it is or moves by the rule of the command `i`. -/
def StaysOrMoves (i : Instr) (s t : State) : Prop := t.txState = s.txState ∨ CommandMoves i s t

theorem sendOrHold_txState (frame : List Byte) (s : State) :
    (sendOrHold frame s).txState = if s.linePending then .txHold else .txSend := by
  obtain ⟨hline, heq⟩ | ⟨hline, heq⟩ := sendOrHold_cases frame s <;> rw [heq, hline] <;> rfl

theorem requestLine_txState (v : LineState) (s : State) : (requestLine v s).txState = s.txState := by
  obtain ⟨-, heq⟩ | ⟨-, heq⟩ := requestLine_cases v s <;> rw [heq]

namespace StaysOrMoves

variable {i : Instr} {s : State}

theorem check {p : Prop} [Decidable p] {rc : ResultCode} {o : Host.Outcome State Fault Refusal}
    (ho : ¬ p → NextSatisfies (StaysOrMoves i s) o) :
    NextSatisfies (StaysOrMoves i s) (if p then reject rc s else o) := .of_check (.inl rfl) ho

theorem exec (i : Instr) (s : State) : NextSatisfies (StaysOrMoves i s) (exec i s) := by
  cases i with
  | nop | crcInit | crcUpdate | crcRead | status | clearFlags => exact .of_ok (.inl rfl)
  | txStart => exact check fun _ => check fun hidle => .of_ok (.inr ⟨not_not.mp hidle, rfl⟩)
  | txEnd => exact check fun hopen => .of_ok (.inr ⟨not_not.mp hopen, sendOrHold_txState _ _⟩)
  | txRespDone => exact check fun hwait => .of_ok (.inr ⟨not_not.mp hwait, rfl⟩)
  | txData | txFill | rxBody => exact check fun _ => check fun _ => .of_ok (.inl rfl)
  | rxHdr | rxLenCrc | rxPop => exact check fun _ => .of_ok (.inl rfl)
  | lineEnable | lineDisable => exact check fun _ => .of_ok (.inl (requestLine_txState _ s))
  | softReset => exact .of_ok (.inr rfl)

end StaysOrMoves

/-- A word moves the encoder only as the word of one of the four commands. -/
theorem runWord_moves {w : Word} {s t : State} (h : runWord w s = .next t) (hne : t.txState ≠ s.txState) :
    ∃ i, w = encode i ∧ CommandMoves i s t := by
  obtain ⟨i, hdecode, hexec⟩ | ⟨-, -, rfl⟩ := runWord_cases h
  · obtain ⟨-, rfl⟩ := decode_eq_ok_iff_encode.mp hdecode
    exact ⟨i, rfl, (StaysOrMoves.exec i s t hexec).resolve_left hne⟩
  · exact absurd rfl hne

/-- The change of `tx_state` that the rule of an event gives (R132, 43_line_arbiter.md R155). -/
def EventMoves (e : Event) (s t : State) : Prop :=
  match e with
  | .txDrain => s.txState = .txSend ∧ t.txState = (if s.txResp then .txWaitResp else .txIdle) ∨
      s.txState = .txDiscard ∧ t.txState = .txIdle
  | .lineConfirm v => v = s.lineState ∧ s.txState = .txHold ∧ t.txState = .txSend
  | .rxByte _ | .rxTimeout => False

theorem DecoderFrame.txState_eq {s t : State} (h : DecoderFrame s t) : t.txState = s.txState := by rw [h]

theorem applyEvent_moves {e : Event} {s : State} (hne : (applyEvent e s).txState ≠ s.txState) :
    EventMoves e s (applyEvent e s) := by
  cases e with
  | rxByte b => exact absurd (rxByte_frame b s).txState_eq hne
  | rxTimeout => exact absurd (rxTimeout_frame s).txState_eq hne
  | txDrain =>
    rw [applyEvent] at hne ⊢
    obtain ⟨hs, heq⟩ | ⟨hs, heq⟩ | ⟨-, -, heq⟩ := txDrain_cases s <;> rw [heq] at hne ⊢
    · exact .inl ⟨hs, rfl⟩
    · exact .inr ⟨hs, rfl⟩
    · exact absurd rfl hne
  | lineConfirm v =>
    rw [applyEvent] at hne ⊢
    obtain ⟨-, heq⟩ | ⟨-, -, -, heq⟩ | ⟨-, hv, hs, heq⟩ := lineConfirm_cases v s <;> rw [heq] at hne ⊢
    · exact absurd rfl hne
    · exact absurd rfl hne
    · exact ⟨hv, hs, rfl⟩

/-- A step that moves the encoder does so by the rule of its input. -/
theorem step_moves {s t : State} (h : step s = .next t) (hne : t.txState ≠ s.txState) :
    (∃ i rest, s.inputs = .command (encode i) :: rest ∧ CommandMoves i s t) ∨
    (∃ e rest, s.inputs = .event e :: rest ∧ EventMoves e s t) := by
  obtain ⟨-, rfl⟩ | ⟨w, rest, hinputs, hrun⟩ | ⟨e, rest, hinputs, rfl⟩ := step_cases h
  · exact absurd rfl hne
  · obtain ⟨i, rfl, hmoves⟩ := runWord_moves hrun hne
    exact .inl ⟨i, rest, hinputs, hmoves⟩
  · exact .inr ⟨e, rest, hinputs, applyEvent_moves hne⟩

/-- Where SOFT_RESET moves the encoder (44_control.md R167): a frame that was being sent is discarded. -/
theorem softReset_moves {s : State} (hne : (softReset s).txState ≠ s.txState) :
    (s.txState = .txSend → (softReset s).txState = .txDiscard) ∧
      (s.txState ≠ .txSend → (softReset s).txState = .txIdle) := by
  rw [softReset_txState] at hne ⊢
  refine ⟨fun hs => if_pos (.inl hs), fun hs => if_neg (not_or.mpr ⟨hs, fun hdiscard => hne ?_⟩)⟩
  rw [if_pos (.inr hdiscard), hdiscard]

/-- Settles O25, by the input of the step: each of the six has its rule's move. -/
theorem encoderMovesOnlyAsRuled : Obligations.EncoderMovesOnlyAsRuled := by
  intro s t h hne
  obtain ⟨i, rest, hinputs, hmoves⟩ | ⟨e, rest, hinputs, hmoves⟩ := step_moves h hne
  · cases i with
    | softReset =>
      rw [show t.txState = (softReset s).txState from hmoves] at hne ⊢
      exact .inl ⟨rest, hinputs, softReset_moves hne⟩
    | txStart flags dest cmd => exact .inr (.inl ⟨flags, dest, cmd, rest, hinputs, hmoves⟩)
    | txEnd => exact .inr (.inr (.inl ⟨rest, hinputs, hmoves⟩))
    | txRespDone => exact .inr (.inr (.inr (.inr (.inr ⟨rest, hinputs, hmoves⟩))))
    | _ => exact hmoves.elim
  · cases e with
    | lineConfirm v =>
      obtain ⟨rfl, hmoves⟩ := hmoves
      exact .inr (.inr (.inr (.inl ⟨rest, hinputs, hmoves⟩)))
    | txDrain => exact .inr (.inr (.inr (.inr (.inl ⟨rest, hinputs, hmoves⟩))))
    | rxByte | rxTimeout => exact hmoves.elim

/-! ## A frame in the transport (R134) -/

/-- A frame of the block is in the transport: on the wire or being discarded. -/
def InTransport (s : State) : Prop := s.txState = .txSend ∨ s.txState = .txDiscard

/-- Only a drain ends a frame in the transport: no other command or event moves the encoder from there, but for
SOFT_RESET, which discards the frame and waits for its drain all the same. -/
theorem InTransport.step {s t : State} (hs : InTransport s) (h : step s = .next t) :
    InTransport t ∨ ∃ rest, s.inputs = .event .txDrain :: rest := by
  by_cases hsame : t.txState = s.txState
  · exact .inl (by rwa [InTransport, hsame])
  obtain ⟨i, rest, -, hmoves⟩ | ⟨e, rest, hinputs, hmoves⟩ := step_moves h hsame
  · cases i with
    | softReset => exact .inl (.inr (hmoves.trans (if_pos hs)))
    | txStart | txEnd | txRespDone =>
      obtain ⟨hfrom, -⟩ := hmoves
      simp [InTransport, hfrom] at hs
    | _ => exact hmoves.elim
  · cases e with
    | txDrain => exact .inr ⟨rest, hinputs⟩
    | lineConfirm v =>
      obtain ⟨-, hfrom, -⟩ := hmoves
      simp [InTransport, hfrom] at hs
    | rxByte | rxTimeout => exact hmoves.elim

theorem step_inputs {s t : State} (h : step s = .next t) : t.inputs = s.inputs.tail := by
  obtain ⟨u, hu, htail, -⟩ := everyInputIsAnswered s
  rwa [← Host.Outcome.next.inj (hu.symm.trans h)]

/-- The inputs that a run takes: those of its first step, then those of the rest. -/
theorem mem_take_succ_of_mem_tail {x : Input} {is : List Input} {n : Nat} (h : x ∈ is.tail.take n) :
    x ∈ is.take (n + 1) := by
  cases is with
  | nil => simp at h
  | cons i rest => exact List.mem_cons_of_mem i h

/-- A run that ends a frame in the transport takes a drain. -/
theorem InTransport.run {n : Nat} {s t : State} (hs : InTransport s)
    (hrun : Host.Core.run Sys2Proof.core n s = .next t) (ht : ¬ InTransport t) :
    Input.event .txDrain ∈ s.inputs.take n := by
  induction n generalizing s with
  | zero => exact absurd (Host.Outcome.next.inj hrun ▸ hs) ht
  | succ n ih =>
    obtain ⟨u, hu, hrest⟩ := run_succ_eq_next.mp hrun
    obtain hstay | ⟨rest, hinputs⟩ := hs.step hu
    · exact mem_take_succ_of_mem_tail (step_inputs hu ▸ ih hstay hrest)
    · rw [hinputs]
      exact List.mem_cons_self

/-- Settles O26. -/
theorem frameInTransportEndsOnlyByDrain : Obligations.FrameInTransportEndsOnlyByDrain :=
  fun _ _ _ hrun hs hsend hdiscard => InTransport.run hs hrun (not_or.mpr ⟨hsend, hdiscard⟩)

/-! ## The output stream while the line is pending (43_line_arbiter.md R157) -/

theorem sendOrHold_txOut_of_pending {s : State} (h : s.linePending = true) (frame : List Byte) :
    (sendOrHold frame s).txOut = s.txOut := by
  rw [sendOrHold, if_pos h]

theorem requestLine_txOut (v : LineState) (s : State) : (requestLine v s).txOut = s.txOut := by
  obtain ⟨-, heq⟩ | ⟨-, heq⟩ := requestLine_cases v s <;> rw [heq]

/-- From `s` to `t` no wire byte goes out. -/
def SendsNothing (s t : State) : Prop := t.txOut = s.txOut

namespace SendsNothing

variable {s t : State}

theorem ok (h : SendsNothing s t) (d : Data) : NextSatisfies (SendsNothing s) (ok d t) := .of_ok h

theorem check {p : Prop} [Decidable p] {rc : ResultCode} {o : Host.Outcome State Fault Refusal}
    (ho : ¬ p → NextSatisfies (SendsNothing s) o) :
    NextSatisfies (SendsNothing s) (if p then reject rc s else o) := .of_check rfl ho

/-- The two commands that send look at the line: TX_END holds its frame, TX_FILL is rejected. -/
theorem exec (h : s.linePending = true) (i : Instr) : NextSatisfies (SendsNothing s) (exec i s) := by
  cases i with
  | nop | crcInit | crcUpdate | crcRead | status | clearFlags | softReset => exact ok rfl _
  | txStart | txData | rxBody => exact check fun _ => check fun _ => ok rfl _
  | txEnd => exact check fun _ => ok (sendOrHold_txOut_of_pending (by exact h) _) _
  | txFill => exact check fun _ => check fun hfree => absurd h hfree
  | txRespDone | rxHdr | rxLenCrc | rxPop => exact check fun _ => ok rfl _
  | lineEnable | lineDisable => exact check fun _ => ok (requestLine_txOut _ s) _

theorem runWord (h : s.linePending = true) {w : Word} (hrun : runWord w s = .next t) : SendsNothing s t := by
  obtain ⟨i, -, hexec⟩ | ⟨-, -, rfl⟩ := runWord_cases hrun
  · exact exec h i t hexec
  · rfl

theorem of_decoderFrame (h : DecoderFrame s t) : SendsNothing s t := by
  rw [SendsNothing, h]

theorem txDrain (s : State) : SendsNothing s (txDrain s) := by
  obtain ⟨-, heq⟩ | ⟨-, heq⟩ | ⟨-, -, heq⟩ := txDrain_cases s <;> rw [heq] <;> rfl

end SendsNothing

/-- From `s` to `t` the event `e` confirms the requested level and releases the held frame (R155). -/
def Releases (e : Event) (s t : State) : Prop :=
  e = .lineConfirm s.lineState ∧ s.txState = .txHold ∧ t.linePending = false ∧ t.txState = .txSend ∧
    t.txOut = s.txOut ++ s.txFrame

theorem applyEvent_sends_nothing_or_releases (e : Event) (s : State) :
    SendsNothing s (applyEvent e s) ∨ Releases e s (applyEvent e s) := by
  cases e with
  | rxByte b => exact .inl (.of_decoderFrame (rxByte_frame b s))
  | rxTimeout => exact .inl (.of_decoderFrame (rxTimeout_frame s))
  | txDrain => exact .inl (.txDrain s)
  | lineConfirm v =>
    rw [applyEvent]
    obtain ⟨-, heq⟩ | ⟨-, -, -, heq⟩ | ⟨-, rfl, hs, heq⟩ := lineConfirm_cases v s <;> rw [heq]
    · exact .inl rfl
    · exact .inl rfl
    · exact .inr ⟨rfl, hs, rfl, rfl, rfl⟩

/-- Settles O47. -/
theorem nothingIsSentWhileTheLineIsPending : Obligations.NothingIsSentWhileTheLineIsPending := by
  intro s t h hline
  obtain ⟨-, rfl⟩ | ⟨w, rest, -, hrun⟩ | ⟨e, rest, hinputs, rfl⟩ := step_cases h
  · exact .inl rfl
  · exact .inl (SendsNothing.runWord (s := { s with inputs := rest }) hline hrun)
  · obtain hnothing | ⟨rfl, hreleases⟩ := applyEvent_sends_nothing_or_releases e { s with inputs := rest }
    · exact .inl hnothing
    · exact .inr ⟨⟨rest, hinputs⟩, hreleases⟩

/-! ## The encoder apart from the decoder (R137) -/

/-- `s` with the decoder's fields and the flags of `x`. -/
def withDecoder (x s : State) : State :=
  { s with
    rxState := x.rxState, rxEsc := x.rxEsc, rxHidx := x.rxHidx, rxFlags := x.rxFlags, rxDest := x.rxDest,
    rxCmd := x.rxCmd, rxLen := x.rxLen, rxBody := x.rxBody, rxCrc := x.rxCrc, rxCidx := x.rxCidx,
    rxChi := x.rxChi, rxValid := x.rxValid, rxMsg := x.rxMsg, rxErr := x.rxErr }

/-- Every next state of `o` is one of `o'` once it has the decoder of `x`. -/
def SameWithDecoder (x : State) (o o' : Host.Outcome State Fault Refusal) : Prop :=
  NextSatisfies (fun t => o' = .next (withDecoder x t)) o

namespace SameWithDecoder

variable {x s : State}

theorem of_ok {u u' : State} (h : u' = withDecoder x u) (d : Data) : SameWithDecoder x (ok d u) (ok d u') := by
  subst h
  exact NextSatisfies.of_ok rfl

/-- A command's check, of fields that are not the decoder's. -/
theorem of_check {p : Prop} [Decidable p] {rc : ResultCode} {o o' : Host.Outcome State Fault Refusal}
    (ho : SameWithDecoder x o o') :
    SameWithDecoder x (if p then reject rc s else o) (if p then reject rc (withDecoder x s) else o') := by
  split
  · exact NextSatisfies.of_reject rfl
  · exact ho

end SameWithDecoder

theorem sendOrHold_withDecoder (frame : List Byte) (x s : State) :
    sendOrHold frame (withDecoder x s) = withDecoder x (sendOrHold frame s) := by
  rw [sendOrHold, sendOrHold, apply_ite (withDecoder x)]
  rfl

theorem exec_withDecoder {i : Instr} {flags dest cmd b : Byte}
    (hi : i ∈ [Instr.txStart flags dest cmd, .txData b, .txEnd, .txFill b, .txRespDone]) (x s : State) :
    SameWithDecoder x (exec i s) (exec i (withDecoder x s)) := by
  simp only [List.mem_cons, List.not_mem_nil, or_false] at hi
  obtain rfl | rfl | rfl | rfl | rfl := hi
  · exact .of_check (.of_check (.of_ok rfl _))
  · exact .of_check (.of_check (.of_ok rfl _))
  · refine .of_check (.of_ok ?_ _)
    exact sendOrHold_withDecoder _ x { s with txResp := s.cfg.flagsByte && s.txFlags.getLsbD 1 }
  · exact .of_check (.of_check (.of_ok rfl _))
  · exact .of_check (.of_ok rfl _)

theorem txDrain_withDecoder (x s : State) : txDrain (withDecoder x s) = withDecoder x (txDrain s) := by
  obtain ⟨hs, heq⟩ | ⟨hs, heq⟩ | ⟨hsend, hdiscard, heq⟩ := txDrain_cases s <;> rw [heq]
  · exact txDrain_of_txSend hs
  · exact txDrain_of_txDiscard hs
  · exact txDrain_of_none hsend hdiscard

/-- Settles O57: the values named are those of some state. -/
theorem encoderCommandsLeaveTheDecoderAlone : Obligations.EncoderCommandsLeaveTheDecoderAlone := by
  intro s t flags dest cmd b rx esc valid hidx cidx rf rd rc rl chi body crc m err setDecoder
  let x : State := setDecoder s
  exact ⟨fun i hi h => exec_withDecoder hi x s t h, txDrain_withDecoder x s⟩

end Sys2Proof.Machine

/-! The CRC engine (42_crc_engine.md): its three commands (R147 to R149), the byte-table form of the step (R145) and the
zero residue (R152). The step is linear over XOR, so the last two need only two facts about the shift register: zero
bits leave its low end without a use of the polynomial, and it maps no value but zero to zero. -/

namespace Sys2Proof.Machine

/-! ## The commands (R147 to R149) -/

/-- The end of a command that answers OK with a CRC. -/
theorem ok_crc (c : Crc) (s : State) :
    ok (zext24 c) s = .next { s with responses := s.responses ++ [c.setWidth 32] } := by
  rw [ok, respond, responseWord_ok_crc]

/-- Settles O14. -/
theorem crcUpdateFollowsItsRule : Obligations.CrcUpdateFollowsItsRule :=
  fun b s => ⟨rfl, ok_crc (crc16Step s.crcAcc b) { s with crcAcc := crc16Step s.crcAcc b }⟩

/-- Settles O15. -/
theorem crcInitAndCrcReadFollowTheirRules : Obligations.CrcInitAndCrcReadFollowTheirRules :=
  ⟨rfl, rfl, fun s => ⟨rfl, ok_crc s.crcAcc s⟩⟩

/-! ## The two bytes of a CRC register -/

theorem joinCrc_xor (hi lo hi' lo' : Byte) :
    joinCrc hi lo ^^^ joinCrc hi' lo' = joinCrc (hi ^^^ hi') (lo ^^^ lo') := BitVec.xor_append

/-- A byte enters the register at its low end (R145). -/
theorem setWidth_eq_joinCrc (b : Byte) : b.setWidth 16 = joinCrc 0 b := BitVec.setWidth_eq_append (by decide)

theorem joinCrc_shiftRight (hi lo : Byte) : joinCrc hi lo >>> 8 = hi.setWidth 16 := by
  rw [BitVec.ushiftRight_eq_extractLsb'_of_lt (by decide), joinCrc, BitVec.extractLsb'_append_eq_left]
  exact (setWidth_eq_joinCrc hi).symm

theorem eq_joinCrc_iff {c : Crc} {hi lo : Byte} : c = joinCrc hi lo ↔ lo = crcLo c ∧ hi = crcHi c := by
  constructor
  · rintro rfl
    exact ⟨BitVec.extractLsb'_append_eq_right.symm, BitVec.extractLsb'_append_eq_left.symm⟩
  · rintro ⟨rfl, rfl⟩
    exact (joinCrc_crcHi_crcLo c).symm

/-! ## The byte-table form (R145) -/

theorem crcShift_of_even {x : Crc} (h : x.getLsbD 0 = false) : crcShift x = x >>> 1 := by
  rw [crcShift, h, if_neg Bool.false_ne_true]

/-- While zero bits leave the low end, the polynomial is not used. -/
theorem crcShifts_of_low_bits_zero {n : Nat} {x : Crc} (h : ∀ i < n, x.getLsbD i = false) :
    crcShifts n x = x >>> n := by
  induction n generalizing x with
  | zero => exact (BitVec.ushiftRight_zero x).symm
  | succ n ih =>
    have hrest : ∀ i < n, (x >>> 1).getLsbD i = false := fun i hi => by
      rw [BitVec.getLsbD_ushiftRight]
      exact h (1 + i) (by omega)
    rw [crcShifts, crcShift_of_even (h 0 n.succ_pos), ih hrest, ← BitVec.shiftRight_add, Nat.add_comm]

/-- The eight shifts move a high byte alone into the low byte's place. -/
theorem crcShifts_joinCrc_zero (hi : Byte) : crcShifts 8 (joinCrc hi 0) = hi.setWidth 16 := by
  have hlow : ∀ i < 8, (joinCrc hi 0).getLsbD i = false := fun i hlt => by
    rw [joinCrc, BitVec.getLsbD_append, if_pos hlt]
    exact BitVec.getLsbD_zero
  rw [crcShifts_of_low_bits_zero hlow, joinCrc_shiftRight]

theorem crc16Step_zero (b : Byte) : crc16Step 0 b = crcShifts 8 (joinCrc 0 b) := by
  rw [← setWidth_eq_joinCrc]
  exact congrArg (crcShifts 8) BitVec.zero_xor

/-- By linearity a step is that of the high byte alone and that of the low byte with the data byte. -/
theorem crc16Step_joinCrc (hi lo b : Byte) :
    crc16Step (joinCrc hi lo) b = hi.setWidth 16 ^^^ crc16Step 0 (lo ^^^ b) := by
  have hsplit : joinCrc hi lo ^^^ b.setWidth 16 = joinCrc hi 0 ^^^ joinCrc 0 (lo ^^^ b) := by
    simp [setWidth_eq_joinCrc, joinCrc_xor]
  rw [crc16Step, hsplit, crcShifts_xor, crcShifts_joinCrc_zero, crc16Step_zero]

/-- Settles O16, by the register's two bytes. -/
theorem crcStepHasTheTableForm : Obligations.CrcStepHasTheTableForm := by
  intro c b
  obtain ⟨hi, lo, rfl⟩ : ∃ hi lo, c = joinCrc hi lo := ⟨_, _, (joinCrc_crcHi_crcLo c).symm⟩
  rw [crc16Step_joinCrc, joinCrc_shiftRight, joinCrc, BitVec.setWidth_append_eq_right]

/-! ## The zero residue (R152) -/

/-- The polynomial's top bit records the bit that a shift takes out. -/
theorem getLsbD_crcShift_top (x : Crc) : (crcShift x).getLsbD 15 = x.getLsbD 0 := by
  unfold crcShift
  cases x.getLsbD 0 <;> simp

theorem crcShift_eq_zero_iff {x : Crc} : crcShift x = 0 ↔ x = 0 := by
  refine ⟨fun h => BitVec.eq_of_getLsbD_eq fun i _ => ?_, by rintro rfl; rfl⟩
  have heven : x.getLsbD 0 = false := by
    rw [← getLsbD_crcShift_top, h]
    rfl
  rw [crcShift_of_even heven] at h
  cases i with
  | zero => exact heven
  | succ i =>
    rw [Nat.add_comm, ← BitVec.getLsbD_ushiftRight, h]
    exact BitVec.getLsbD_zero.trans BitVec.getLsbD_zero.symm

theorem crcShifts_eq_zero_iff {n : Nat} {x : Crc} : crcShifts n x = 0 ↔ x = 0 := by
  induction n generalizing x with
  | zero => rfl
  | succ n ih => rw [crcShifts, ih, crcShift_eq_zero_iff]

/-- Two steps are sixteen shifts of the register with both bytes in it, the first one low. -/
theorem crc16Step_crc16Step (c : Crc) (a b : Byte) :
    crc16Step (crc16Step c a) b = crcShifts 16 (c ^^^ joinCrc b a) := by
  have hboth : joinCrc 0 a ^^^ joinCrc b 0 = joinCrc b a := by simp [joinCrc_xor]
  calc crc16Step (crc16Step c a) b
    _ = crcShifts 8 (crcShifts 8 (c ^^^ joinCrc 0 a) ^^^ crcShifts 8 (joinCrc b 0)) := by
      rw [crcShifts_joinCrc_zero, ← setWidth_eq_joinCrc]
      rfl
    _ = crcShifts 16 (c ^^^ joinCrc b a) := by
      rw [← crcShifts_xor, ← crcShifts_add, BitVec.xor_assoc, hboth]

/-- The two-byte suffix with a zero residue is unique. -/
theorem crc16_append_two_eq_zero_iff (xs : List Byte) (a b : Byte) :
    crc16 (xs ++ [a, b]) = 0 ↔ a = crcLo (crc16 xs) ∧ b = crcHi (crc16 xs) := by
  calc crc16 (xs ++ [a, b]) = 0
    _ ↔ crcShifts 16 (crc16 xs ^^^ joinCrc b a) = 0 := by
      rw [crc16_append, ← crc16Step_crc16Step]
      rfl
    _ ↔ crc16 xs = joinCrc b a := crcShifts_eq_zero_iff.trans BitVec.xor_eq_zero_iff
    _ ↔ a = crcLo (crc16 xs) ∧ b = crcHi (crc16 xs) := eq_joinCrc_iff

/-- Settles O17: the wire order is the suffix with its two bytes exchanged. -/
theorem zeroResidueOnlyLowByteFirst : Obligations.ZeroResidueOnlyLowByteFirst := by
  rintro xs c rfl
  refine ⟨crc16_append_two_eq_zero_iff xs, (crc16_append_two_eq_zero_iff xs _ _).trans ?_⟩
  exact and_iff_left_of_imp Eq.symm

end Sys2Proof.Machine

/-! The line arbiter (43_line_arbiter.md): the two level commands as one request of a level (R153, R154), the confirm
(R155), and which steps may change the requested level while a frame of the block is out (R157). -/

namespace Sys2Proof.Machine

/-! ## The level commands (R153, R154) -/

/-- The command that requests a level. -/
def levelCommand : LineState → Instr
  | .enabled => .lineEnable
  | .disabled => .lineDisable

theorem exec_levelCommand (v : LineState) (s : State) :
    exec (levelCommand v) s = if frameOut s then reject .state s else ok 0 (requestLine v s) := by
  cases v <;> rfl

theorem frameOut_eq_false {s : State} (h : s.txState = .txIdle ∨ s.txState = .txOpen ∨ s.txState = .txWaitResp) :
    frameOut s = false := by
  obtain h | h | h := h <;> rw [frameOut, h] <;> rfl

theorem exec_levelCommand_of_frameOut {s : State}
    (h : s.txState = .txHold ∨ s.txState = .txSend ∨ s.txState = .txDiscard) (v : LineState) :
    exec (levelCommand v) s = reject .state s := by
  rw [exec_levelCommand, if_pos (frameOut_eq_true.mpr h)]

/-- With no frame out the command is its request, answered OK. -/
theorem exec_levelCommand_of_noFrameOut {s : State}
    (h : s.txState = .txIdle ∨ s.txState = .txOpen ∨ s.txState = .txWaitResp) (v : LineState) :
    exec (levelCommand v) s = ok 0 (requestLine v s) := by
  rw [exec_levelCommand, if_neg (Bool.eq_false_iff.mp (frameOut_eq_false h))]

theorem requestLine_of_ne {v : LineState} {s : State} (h : s.lineState ≠ v) :
    requestLine v s = { s with lineState := v, linePending := true } := if_neg h

/-- The whole rule of a level command, for either level `v`, requested when the level is `other`. -/
theorem levelCommand_rule {v other : LineState} (hne : other ≠ v) (s : State) :
    (s.txState = .txHold ∨ s.txState = .txSend ∨ s.txState = .txDiscard →
      exec (levelCommand v) s = reject .state s) ∧
    (s.txState = .txIdle ∨ s.txState = .txOpen ∨ s.txState = .txWaitResp → s.lineState = other →
      exec (levelCommand v) s = ok 0 { s with lineState := v, linePending := true }) ∧
    (s.txState = .txIdle ∨ s.txState = .txOpen ∨ s.txState = .txWaitResp → s.lineState = v →
      exec (levelCommand v) s = ok 0 s) := by
  refine ⟨fun hout => exec_levelCommand_of_frameOut hout v, fun hfree hother => ?_, fun hfree hsame => ?_⟩
  · rw [exec_levelCommand_of_noFrameOut hfree, requestLine_of_ne (hother ▸ hne)]
  · rw [exec_levelCommand_of_noFrameOut hfree, requestLine_eq_self hsame]

/-- Settles O44. -/
theorem lineEnableFollowsItsRule : Obligations.LineEnableFollowsItsRule :=
  ⟨rfl, levelCommand_rule (v := .enabled) (other := .disabled) nofun⟩

/-- Settles O45. -/
theorem lineDisableFollowsItsRule : Obligations.LineDisableFollowsItsRule :=
  ⟨rfl, levelCommand_rule (v := .disabled) (other := .enabled) nofun⟩

/-! ## The confirm (R155) -/

/-- Settles O46, by the cases of a confirm. -/
theorem lineConfirmFollowsItsRule : Obligations.LineConfirmFollowsItsRule := by
  intro v s
  rw [applyEvent]
  obtain ⟨hstale, heq⟩ | ⟨hline, hv, hs, heq⟩ | ⟨hline, hv, hs, heq⟩ := lineConfirm_cases v s <;> rw [heq]
  · exact ⟨fun _ => rfl, fun hline hv => absurd ⟨hline, hv⟩ hstale, fun hline hv => absurd ⟨hline, hv⟩ hstale⟩
  · exact ⟨by simp [hline, hv], fun _ _ _ => rfl, fun _ _ hhold => absurd hhold hs⟩
  · exact ⟨by simp [hline, hv], fun _ _ hfree => absurd hs hfree, fun _ _ _ => rfl⟩

/-! ## The level while a frame is out (R157) -/

/-- From `s` to `t` the requested level stays and no confirmed level becomes pending. -/
def KeepsLevel (s t : State) : Prop := t.lineState = s.lineState ∧ (t.linePending = true → s.linePending = true)

namespace KeepsLevel

variable {s t : State}

theorem of_eq (hlevel : t.lineState = s.lineState) (hpending : t.linePending = s.linePending) : KeepsLevel s t :=
  ⟨hlevel, fun h => hpending ▸ h⟩

theorem of_decoderFrame (h : DecoderFrame s t) : KeepsLevel s t := by
  rw [h]
  exact of_eq rfl rfl

theorem sendOrHold (frame : List Byte) (s : State) : KeepsLevel s (sendOrHold frame s) := by
  obtain ⟨-, heq⟩ | ⟨-, heq⟩ := sendOrHold_cases frame s <;> rw [heq] <;> exact of_eq rfl rfl

theorem txDrain (s : State) : KeepsLevel s (txDrain s) := by
  obtain ⟨-, heq⟩ | ⟨-, heq⟩ | ⟨-, -, heq⟩ := txDrain_cases s <;> rw [heq] <;> exact of_eq rfl rfl

/-- A confirm only ends the wait. -/
theorem lineConfirm (v : LineState) (s : State) : KeepsLevel s (lineConfirm v s) := by
  obtain ⟨-, heq⟩ | ⟨-, -, -, heq⟩ | ⟨-, -, -, heq⟩ := lineConfirm_cases v s <;> rw [heq]
  · exact of_eq rfl rfl
  · exact ⟨rfl, nofun⟩
  · exact ⟨rfl, nofun⟩

theorem applyEvent (e : Event) (s : State) : KeepsLevel s (applyEvent e s) := by
  cases e with
  | rxByte b => exact of_decoderFrame (rxByte_frame b s)
  | rxTimeout => exact of_decoderFrame (rxTimeout_frame s)
  | txDrain => exact txDrain s
  | lineConfirm v => exact lineConfirm v s

theorem ok (h : KeepsLevel s t) (d : Data) : NextSatisfies (KeepsLevel s) (ok d t) := .of_ok h

theorem check {p : Prop} [Decidable p] {rc : ResultCode} {o : Host.Outcome State Fault Refusal}
    (ho : ¬ p → NextSatisfies (KeepsLevel s) o) :
    NextSatisfies (KeepsLevel s) (if p then reject rc s else o) := .of_check (of_eq rfl rfl) ho

/-- While a frame is out the level commands are rejected; no other command but SOFT_RESET writes the level. -/
theorem exec (hout : frameOut s = true) {i : Instr} (hi : i ≠ .softReset) :
    NextSatisfies (KeepsLevel s) (exec i s) := by
  cases i with
  | nop | crcInit | crcUpdate | crcRead | status | clearFlags => exact ok (of_eq rfl rfl) _
  | txStart | txData | txFill | rxBody => exact check fun _ => check fun _ => ok (of_eq rfl rfl) _
  | txEnd => exact check fun _ => ok (sendOrHold _ { s with txResp := s.cfg.flagsByte && s.txFlags.getLsbD 1 }) _
  | txRespDone | rxHdr | rxLenCrc | rxPop => exact check fun _ => ok (of_eq rfl rfl) _
  | lineEnable | lineDisable => exact check fun hfree => absurd hout hfree
  | softReset => exact absurd rfl hi

theorem runWord (hout : frameOut s = true) {w : Word} (hw : w ≠ encode .softReset) (hrun : runWord w s = .next t) :
    KeepsLevel s t := by
  obtain ⟨i, hdecode, hexec⟩ | ⟨-, -, rfl⟩ := runWord_cases hrun
  · obtain ⟨-, rfl⟩ := decode_eq_ok_iff_encode.mp hdecode
    exact exec hout (fun hi => hw (congrArg encode hi)) t hexec
  · exact of_eq rfl rfl

end KeepsLevel

/-- Settles O48, by the kind of the next input. -/
theorem levelIsKeptWhileAFrameIsOut : Obligations.LevelIsKeptWhileAFrameIsOut := by
  intro s t h hs hreset
  obtain ⟨-, rfl⟩ | ⟨w, rest, hinputs, hrun⟩ | ⟨e, rest, -, rfl⟩ := step_cases h
  · exact KeepsLevel.of_eq rfl rfl
  · refine KeepsLevel.runWord (s := { s with inputs := rest }) (frameOut_eq_true.mpr hs) ?_ hrun
    rintro rfl
    exact hreset rest hinputs
  · exact KeepsLevel.applyEvent e { s with inputs := rest }

end Sys2Proof.Machine

/-! The control commands (44_control.md R164 to R167): the layout of the STATUS word, and what CLEAR_FLAGS and SOFT_RESET
answer. -/

namespace Sys2Proof.Machine

/-! ## OK responses (30_encoding.md R76, R77) -/

/-- The code of OK is zero, so an OK response is its data as a word. -/
theorem responseWord_ok (d : Data) : responseWord .ok d = d.setWidth 32 :=
  (BitVec.setWidth_eq_append (by decide)).symm

theorem responseWord_ok_flags (flags : BitVec 6) : responseWord .ok (zext24 flags) = flags.setWidth 32 := by
  rw [responseWord_ok, zext24, BitVec.setWidth_setWidth (by decide)]

/-- A field inside the data of a response, at its place in the whole word. -/
theorem responseWord_extractLsb' {start len : Nat} (h : start + len ≤ 24) (rc : ResultCode) (d : Data) :
    (responseWord rc d).extractLsb' start len = d.extractLsb' start len :=
  BitVec.extractLsb'_append_eq_of_add_le h

theorem responseWord_getLsbD {i : Nat} (h : i < 24) (rc : ResultCode) (d : Data) :
    (responseWord rc d).getLsbD i = d.getLsbD i := by
  rw [responseWord, BitVec.getLsbD_append, if_pos h]

/-! ## NOP (R166) -/

/-- Settles O50: NOP's answer is `ok 0` on the state itself. -/
theorem nopFollowsItsRule : Obligations.NopFollowsItsRule :=
  ⟨rfl, fun _ => rfl⟩

/-! ## STATUS (R164) -/

/-- The wide fields of the STATUS data, each reached past the fields below it. -/
theorem statusData_fields (s : State) :
    (statusData s).extractLsb' 0 3 = s.rxState.code ∧
    (statusData s).extractLsb' 4 3 = s.txState.code ∧
    (statusData s).extractLsb' 10 6 = 0 ∧
    (statusData s).extractLsb' 16 6 = s.rxErr ∧
    (statusData s).extractLsb' 22 2 = 0 := by
  simp only [statusData, BitVec.extractLsb'_append_eq_of_le, Nat.reduceLeDiff, Nat.reduceSub]
  exact ⟨BitVec.extractLsb'_append_eq_right, BitVec.extractLsb'_append_eq_right, BitVec.extractLsb'_append_eq_right,
    BitVec.extractLsb'_append_eq_right, rfl⟩

theorem LineState.getLsbD_code_eq_true {v : LineState} : v.code.getLsbD 0 = true ↔ v = .enabled := by
  cases v <;> decide

/-- The one-bit fields of the STATUS data. -/
theorem statusData_bits (s : State) :
    (statusData s).getLsbD 3 = s.rxValid ∧
    (statusData s).getLsbD 7 = false ∧
    ((statusData s).getLsbD 8 = true ↔ s.lineState = .enabled) ∧
    (statusData s).getLsbD 9 = s.linePending := by
  simp only [statusData, BitVec.getLsbD_append, Nat.reduceLT, if_true, if_false, Nat.reduceSub]
  exact ⟨BitVec.getLsbD_ofBool .., BitVec.getLsbD_zero, LineState.getLsbD_code_eq_true, BitVec.getLsbD_ofBool ..⟩

/-- Settles O51, by the layout of the STATUS data; the codes are those of R19 and R32. -/
theorem statusFollowsItsRule : Obligations.StatusFollowsItsRule := by
  refine ⟨rfl, fun s => ⟨responseWord .ok (statusData s), rfl, responseWord_code .ok _, ?_⟩⟩
  obtain ⟨hrx, htx, hreserved, hflags, htop⟩ := statusData_fields s
  obtain ⟨hvalid, hzero, hline, hpending⟩ := statusData_bits s
  simp only [responseWord_extractLsb', responseWord_getLsbD, Nat.reduceAdd, Nat.reduceLeDiff, Nat.reduceLT]
  refine ⟨hrx.trans ?rxCode, hvalid, htx.trans ?txCode, hzero, hline, hpending, hreserved, hflags, htop⟩
  case rxCode => cases s.rxState <;> rfl
  case txCode => cases s.txState <;> rfl

/-! ## CLEAR_FLAGS (R165) -/

/-- The mask ends the word: the two must-be-zero bits of `C` join the bits above it (30_encoding.md R75). -/
theorem encode_clearFlags (mask : BitVec 6) : encode (.clearFlags mask) = 0x1040000#26 ++ mask := by
  have hpad : mask.setWidth 8 = 0#2 ++ mask := BitVec.setWidth_eq_append (by decide)
  calc encode (.clearFlags mask)
    _ = 0x410000#24 ++ mask.setWidth 8 := rfl
    _ = 0x410000#24 ++ (0#2 ++ mask) := by rw [hpad]
    _ = 0x1040000#26 ++ mask := BitVec.append_assoc'

/-- Settles O52: the answer is taken from the state before the clearing. -/
theorem clearFlagsFollowsItsRule : Obligations.ClearFlagsFollowsItsRule := by
  intro mask s
  refine ⟨encode_clearFlags mask, ?_⟩
  rw [← responseWord_ok_flags]
  rfl

/-! ## SOFT_RESET (R167) -/

/-- Settles O53. The level is requested DISABLED with a frame out too, the exception to R157 that log 10 names. -/
theorem softResetFollowsItsRule : Obligations.SoftResetFollowsItsRule := by
  refine ⟨rfl, fun s => ⟨(softReset s).txState, (softReset s).linePending, fun hsent => ?_, fun hsend hdiscard => ?_, ?_,
    rfl⟩⟩
  · rw [softReset_txState, if_pos hsent]
  · rw [softReset_txState, if_neg (not_or.mpr ⟨hsend, hdiscard⟩)]
  · rw [softReset_linePending, Bool.or_eq_true, beq_iff_eq]

end Sys2Proof.Machine
